-- ==== Sys2Proof/Word.lean ====
section
/-!
DEFINITION. The words of the block (10_state: no value is wider than 8 bits; 30_encoding R80: one operation word of
20 bits) and the code of the button level (00_scope R12).
-/
namespace Sys2Proof

/-- An 8-bit unsigned value: a tick, a counter, a temperature sample, a PWM level (00_scope R6). -/
abbrev Byte := BitVec 8

/-- An operation word, exactly 20 bits (30_encoding R80). -/
abbrev OpWord := BitVec 20

/-- Button level, 1 bit: `RELEASED = 0`, `PRESSED = 1` (00_scope R12). -/
inductive Level where
  | released
  | pressed
  deriving DecidableEq, Repr

end Sys2Proof
end

