-- ==== Sys2Proof/Config.lean ====
section
/-!
DEFINITION. The named parameters of 00_scope R7: natural numbers fixed for a whole run. The document gives no value for
any of them, so the model takes them as an argument (`State.cfg`, log 2) and its claims hold for every legal value
(WellFormed.lean). The spec leaves nothing else to an implementation and gives no free value (93 section 3).
-/
namespace Sys2Proof

/-- The parameters of 00_scope R7. `HALF_SEC_TICKS` is `TICKS_PER_SECOND div 2` and stands in Machine/Operands.lean.
The two 8-bit parameters are bytes, so that a value outside 0..255 cannot be written (log 13). -/
structure Params where
  /-- `TICKS_PER_SECOND`: TICK events per second of real time. -/
  ticksPerSecond : Nat
  /-- `LONG_TICKS`: the long-press threshold in ticks. -/
  longTicks : Nat
  /-- `STROBE_HALF_TICKS`: ticks between two strobe toggles. -/
  strobeHalfTicks : Nat
  /-- `OFF_SETTLE_TICKS`: the fixed settle delay of OFF entry, in ticks. -/
  offSettleTicks : Nat
  /-- `SETTLE_COUNT`: SCLK events from arming the settle timer to its expiry. -/
  settleCount : Nat
  /-- `OVERTEMP_THRESHOLD`: 8-bit unsigned overtemperature threshold. -/
  overtempThreshold : Byte
  /-- `LOW_DUTY`: 8-bit PWM level of state LOW. -/
  lowDuty : Byte
  deriving DecidableEq, Repr

/-- The test configuration TC (00_scope R7, column "test value"): the spec's own illustrative choice. -/
def Params.tc : Params where
  ticksPerSecond := 31
  longTicks := 16
  strobeHalfTicks := 2
  offSettleTicks := 3
  settleCount := 2
  overtempThreshold := 200
  lowDuty := 64

end Sys2Proof
end

