-- ==== Sys2Proof/Syntax.lean ====
section
/-!
DEFINITION. The nine operations of the block (30_encoding R82, spec/opcode_table.json), one constructor a row, with the
operands R84 gives them; the mnemonics of the table; an assembler line (R90) and the pseudo-operations (R91).
-/
namespace Sys2Proof

/-- One operation with its operands (30_encoding R82, R84). -/
inductive Instr where
  /-- NOP (40 R100): a step in which no event arrives. -/
  | nop
  /-- TICK (40 R101): the timer overflow. -/
  | tick
  /-- NOW (40 R102): read the Tick clock. -/
  | now
  /-- ELAPSED ref, now (40 R103). -/
  | elapsed (ref now : Byte)
  /-- EXPIRED ref, thr (40 R105). -/
  | expired (ref thr : Byte)
  /-- PIN level (41 R121): the edge event. -/
  | pin (level : Level)
  /-- SCLK (41 R125): one pulse of the settle time base. -/
  | sclk
  /-- POLL temp, chg, usbboot (42 R140): one spin of the main sequencer. -/
  | poll (temp : Byte) (chg usbboot : Bool)
  /-- RST level (70 R240). -/
  | rst (level : Level)
  deriving DecidableEq, Repr

/-- The mnemonics of spec/opcode_table.json, as the table spells them. -/
inductive Mnemonic where
  | NOP | TICK | NOW | ELAPSED | EXPIRED | PIN | SCLK | POLL | RST
  deriving DecidableEq, Repr

/-- The row of the table an operation belongs to. -/
def Instr.mnemonic : Instr → Mnemonic
  | .nop => .NOP
  | .tick => .TICK
  | .now => .NOW
  | .elapsed _ _ => .ELAPSED
  | .expired _ _ => .EXPIRED
  | .pin _ => .PIN
  | .sclk => .SCLK
  | .poll _ _ _ => .POLL
  | .rst _ => .RST

/-- One line of an assembler program, its text already split into the mnemonic and its operand numbers (30_encoding R90;
the splitting of text, comments and number bases is left out, log 14). -/
structure AsmLine where
  mnemonic : Mnemonic
  operands : List Nat
  deriving DecidableEq, Repr

/-- The pseudo-operations of 30_encoding R91. -/
inductive Pseudo where
  /-- `TICKS n` -/
  | ticks (n : Nat)
  /-- `SPIN n` -/
  | spin (n : Nat)
  /-- `SETTLE` -/
  | settle
  /-- `PRESS` -/
  | press
  /-- `RELEASE` -/
  | release
  deriving DecidableEq, Repr

end Sys2Proof
end

