-- ==== Sys2Proof/WellFormed.lean ====
section
/-!
DEFINITION. What is well-formed. Every operand value of an operation is legal (30_encoding R84, 95 E16) and the types of
`Instr` hold exactly the operands R84 names, so EVERY term of `Instr` is well-formed and there is no check to write on
it. What can be ill-formed is a configuration (00_scope R7, R8), an assembler line (30_encoding R90), and an operation
word, which the decoder checks (Decode.lean, R85 and R86).
-/
namespace Sys2Proof

/-- A tick threshold is in 1..127 (00_scope R7, R8). -/
def tickThresholdLegal (n : Nat) : Bool := decide (1 ≤ n) && decide (n ≤ 127)

/-- The legal ranges of 00_scope R7. `HALF_SEC_TICKS` is in 1..127 whenever `TICKS_PER_SECOND` is in 2..254, and the two
8-bit parameters are in range by their type. -/
def Params.legal (p : Params) : Bool :=
  decide (2 ≤ p.ticksPerSecond) && decide (p.ticksPerSecond ≤ 254) && tickThresholdLegal p.longTicks &&
    tickThresholdLegal p.strobeHalfTicks && tickThresholdLegal p.offSettleTicks && decide (1 ≤ p.settleCount)

/-- How many operands a line may have: the number R90 lists, and for POLL, whose trailing operands may be left out, any
number up to three. -/
def Mnemonic.takes (m : Mnemonic) (n : Nat) : Bool :=
  match m with
  | .NOP | .TICK | .NOW | .SCLK => n == 0
  | .PIN | .RST => n == 1
  | .ELAPSED | .EXPIRED => n == 2
  | .POLL => decide (n ≤ 3)

/-- The bound of the operand at a place: one-bit operands are below 2, the others below 256 (30_encoding R84). -/
def Mnemonic.operandBound (m : Mnemonic) (place : Nat) : Nat :=
  match m, place with
  | .PIN, _ | .RST, _ => 2
  | .POLL, 0 => 256
  | .POLL, _ => 2
  | _, _ => 256

/-- Every operand from a place on is within its bound. -/
def Mnemonic.operandsFit (m : Mnemonic) (place : Nat) : List Nat → Bool
  | [] => true
  | v :: rest => decide (v < m.operandBound place) && m.operandsFit (place + 1) rest

/-- A well-formed assembler line (30_encoding R90). -/
def AsmLine.wellFormed (l : AsmLine) : Bool :=
  l.mnemonic.takes l.operands.length && l.mnemonic.operandsFit 0 l.operands

end Sys2Proof
end

