-- ==== Sys2Proof/Decode.lean ====
section
/-!
DEFINITION. The decoder and the encoder of operation words (30_encoding R80 to R87), the match and mask table of R83,
and the assembler's lines and pseudo-operations (R90, R91). The decoder reads the fields of R81 and refuses every
reserved encoding by name; the table of R83 is written beside it, from the spec's own columns, so that the two can be
proved to agree.
-/
namespace Sys2Proof

/-! ### Fields (R81, R84) -/

/-- `op = w[19:16]`. -/
def opField (w : OpWord) : BitVec 4 := w.extractLsb' 16 4

/-- `a = w[15:8]`. -/
def aField (w : OpWord) : Byte := w.extractLsb' 8 8

/-- `b = w[7:0]`. -/
def bField (w : OpWord) : Byte := w.extractLsb' 0 8

/-- The word with operation code `op` and operand fields `a`, `b`: `op * 65536 + a * 256 + b` (R81). -/
def mkOpw (op : BitVec 4) (a b : Byte) : OpWord := op ++ a ++ b

/-- The level a bit stands for: `RELEASED = 0`, `PRESSED = 1` (00_scope R12). -/
def Level.ofBit (v : Bool) : Level := if v then .pressed else .released

/-- The bit a level is coded by (00_scope R12). -/
def Level.bit : Level → Bool
  | .released => false
  | .pressed => true

/-! ### Decoding (R82, R85, R86) -/

/-- Why a word is reserved. -/
inductive Reserved where
  /-- The operation code is one of 0x8 to 0xE (R86). -/
  | operationCode
  /-- The operation code is known and an operand bit the operation does not use is 1 (R85). -/
  | operandBits
  deriving DecidableEq, Repr

/-- What the decoder answers: an operation, or "reserved" (R86) with the reason. -/
inductive Decoded where
  | instr (i : Instr)
  | reserved (why : Reserved)
  deriving DecidableEq, Repr

/-- The operation, when its unused operand bits are 0 (R85). -/
def whenUnusedZero (zero : Bool) (i : Instr) : Decoded := if zero then .instr i else .reserved .operandBits

/-- `b[7:1] = 0`, for PIN and RST (R85). -/
def bAboveBit0Zero (b : Byte) : Bool := b.extractLsb' 1 7 == 0#7

/-- `b[7:2] = 0`, for POLL (R85). -/
def bAboveBit1Zero (b : Byte) : Bool := b.extractLsb' 2 6 == 0#6

/-- The operation with code `op` and operand fields `a`, `b` (R82, R84, R85, R86). -/
def decodeFields (op : BitVec 4) (a b : Byte) : Decoded :=
  match op.toNat with
  | 0 => whenUnusedZero (a == 0#8 && b == 0#8) .nop
  | 1 => whenUnusedZero (a == 0#8 && b == 0#8) .tick
  | 2 => whenUnusedZero (a == 0#8 && b == 0#8) .now
  | 3 => .instr (.elapsed a b)
  | 4 => .instr (.expired a b)
  | 5 => whenUnusedZero (a == 0#8 && bAboveBit0Zero b) (.pin (Level.ofBit (b.getLsbD 0)))
  | 6 => whenUnusedZero (a == 0#8 && b == 0#8) .sclk
  | 7 => whenUnusedZero (bAboveBit1Zero b) (.poll a (b.getLsbD 0) (b.getLsbD 1))
  | 15 => whenUnusedZero (a == 0#8 && bAboveBit0Zero b) (.rst (Level.ofBit (b.getLsbD 0)))
  | _ => .reserved .operationCode

/-- Decoding, total on every word (R86: 'a decoder returns "reserved"' for a reserved encoding). -/
def decode (w : OpWord) : Decoded := decodeFields (opField w) (aField w) (bField w)

/-! ### Encoding (R82, R83) -/

/-- `b` with bit 0 set as given and the other bits 0. -/
def bitByte (v : Bool) : Byte := if v then 1#8 else 0#8

/-- The word of an operation, from the pattern column of R83. -/
def encode : Instr → OpWord
  | .nop => mkOpw 0x0#4 0#8 0#8
  | .tick => mkOpw 0x1#4 0#8 0#8
  | .now => mkOpw 0x2#4 0#8 0#8
  | .elapsed ref now => mkOpw 0x3#4 ref now
  | .expired ref thr => mkOpw 0x4#4 ref thr
  | .pin level => mkOpw 0x5#4 0#8 (bitByte level.bit)
  | .sclk => mkOpw 0x6#4 0#8 0#8
  | .poll temp chg usbboot => mkOpw 0x7#4 temp (bitByte usbboot * 2#8 + bitByte chg)
  | .rst level => mkOpw 0xF#4 0#8 (bitByte level.bit)

/-! ### The match and mask table (R83, spec/opcode_table.json) -/

/-- One row: "a word `w` selects the row when `w AND mask = match`". -/
structure OpRow where
  mnemonic : Mnemonic
  mtch : OpWord
  mask : OpWord
  deriving DecidableEq, Repr

/-- The table of R83. -/
def opTable : List OpRow :=
  [ ⟨.NOP, 0x00000#20, 0xFFFFF#20⟩, ⟨.TICK, 0x10000#20, 0xFFFFF#20⟩, ⟨.NOW, 0x20000#20, 0xFFFFF#20⟩,
    ⟨.ELAPSED, 0x30000#20, 0xF0000#20⟩, ⟨.EXPIRED, 0x40000#20, 0xF0000#20⟩, ⟨.PIN, 0x50000#20, 0xFFFFE#20⟩,
    ⟨.SCLK, 0x60000#20, 0xFFFFF#20⟩, ⟨.POLL, 0x70000#20, 0xF00FC#20⟩, ⟨.RST, 0xF0000#20, 0xFFFFE#20⟩ ]

/-- The row selects the word (R83). -/
def OpRow.selects (r : OpRow) (w : OpWord) : Bool := w &&& r.mask == r.mtch

/-- The mnemonics of the rows that select a word, in the table's order. -/
def rowsOf (w : OpWord) : List Mnemonic := (opTable.filter (·.selects w)).map (·.mnemonic)

/-! ### The words of spec/opcode_table.json as numbers -/

/-- The port word a number of at most `nbits` bits stands for. The port has 20 bits and no other length (R80, R94): a
number with a bit above them is no operation word, and a reserved word stands for it, so that the decoder and the step
both refuse it (log 15). -/
def opwOfNumber (nbits w : Nat) : OpWord :=
  if w % 2 ^ nbits < 2 ^ 20 then BitVec.ofNat 20 (w % 2 ^ nbits) else 0x80000#20

/-- The operation the decoder reads from a table row's number, none where it refuses. -/
def decodeTableWord (nbits w : Nat) : Option Instr :=
  match decode (opwOfNumber nbits w) with
  | .instr i => some i
  | .reserved _ => none

/-! ### Assembler lines and pseudo-operations (R90, R91) -/

/-- A one-bit operand of an assembler line. -/
def bitOperand (v : Nat) : Bool := v == 1

/-- The operation of an assembler line; an ill-formed line has none. The operand order is that of R82, and "the trailing
operands of POLL may be left out and are then 0". -/
def assemble (l : AsmLine) : Option Instr :=
  if l.wellFormed then
    let x := l.operands.getD 0 0
    let y := l.operands.getD 1 0
    let z := l.operands.getD 2 0
    match l.mnemonic with
    | .NOP => some .nop
    | .TICK => some .tick
    | .NOW => some .now
    | .ELAPSED => some (.elapsed (BitVec.ofNat 8 x) (BitVec.ofNat 8 y))
    | .EXPIRED => some (.expired (BitVec.ofNat 8 x) (BitVec.ofNat 8 y))
    | .PIN => some (.pin (Level.ofBit (bitOperand x)))
    | .SCLK => some .sclk
    | .POLL => some (.poll (BitVec.ofNat 8 x) (bitOperand y) (bitOperand z))
    | .RST => some (.rst (Level.ofBit (bitOperand x)))
  else none

/-- The pair `TICK`, `POLL` with the operands of POLL 0, written `n` times. -/
def spins : Nat → List Instr
  | 0 => []
  | n + 1 => .tick :: .poll 0#8 false false :: spins n

/-- The expansion of a pseudo-operation (R91); `SETTLE` depends on `SETTLE_COUNT`. -/
def Pseudo.expand (p : Params) : Pseudo → List Instr
  | .ticks n => List.replicate n .tick
  | .spin n => spins n
  | .settle => List.replicate p.settleCount .sclk
  | .press => .pin .pressed :: List.replicate p.settleCount .sclk
  | .release => .pin .released :: List.replicate p.settleCount .sclk

end Sys2Proof
end

