-- ==== Sys2Proof/Machine/State.lean ====
section
/-!
DEFINITION. The state of the block: every register of 10_state section 1 under its own name, the two step outputs
(10_state R46, R47), and two fields that are the MODEL's own: the parameters of the run and the operation words the
environment will present (log 1, 2). Plain data throughout.
-/
namespace Sys2Proof.Machine

/-- Power state, 2 bits: `OFF = 0`, `LOW = 1`, `MED = 2`, `HIGH = 3` (00_scope R12). -/
inductive PowerState where
  | off
  | low
  | med
  | high
  deriving DecidableEq, Repr

/-- Modifier, 1 bit: `SOLID = 0`, `STROBE = 1` (00_scope R12). -/
inductive Modifier where
  | solid
  | strobe
  deriving DecidableEq, Repr

/-- Phase, 3 bits, in the order of the codes 0 to 7 (00_scope R12): P_BOOT, P_WAIT_DOWN, P_WAIT_UP, P_WAIT_REL,
P_OFF_REL, P_OFF_SETTLE, P_THERM, and the reserved code 7, which no rule produces (42 R173, log 7). -/
inductive Phase where
  | boot
  | waitDown
  | waitUp
  | waitRel
  | offRel
  | offSettle
  | therm
  | reserved
  deriving DecidableEq, Repr

/-- The registers of 10_state section 1, the step outputs, and the model's own fields. -/
structure State where
  /-- The Tick (R20). -/
  tick : Byte
  /-- The raw level of the button pin as the block last saw it (R33). -/
  pin : Level
  /-- The settle timer is armed (R32). -/
  settle_armed : Bool
  /-- SCLK events left before the settle timer expires, 0..`SETTLE_COUNT` (R27). -/
  settle_cnt : Nat
  /-- The debounced level (R31). -/
  deb_level : Level
  /-- Debounced presses, mod 256 (R21). -/
  press_count : Byte
  /-- Debounced releases, mod 256 (R21). -/
  release_count : Byte
  /-- The Power state (R36). -/
  state : PowerState
  /-- The state a SHORT press enters (R37). -/
  next : PowerState
  /-- The Modifier (R34). -/
  modifier : Modifier
  /-- The control position of the main sequencer (R29). -/
  phase : Phase
  /-- The phase to return to when the thermal warning sequence ends (R30). -/
  ret_phase : Phase
  /-- Last observed value of `press_count` (R22). -/
  seen_press : Byte
  /-- Last observed value of `release_count` (R22). -/
  seen_release : Byte
  /-- `tick` at the POLL that detected button-down (R23). -/
  down_tick : Byte
  /-- `tick` at the POLL that saw the button released during OFF entry (R24). -/
  off_ref : Byte
  /-- `tick` at the last POLL at which the strobe interval was found due (R25). -/
  strobe_ref : Byte
  /-- The USB/external-power flag, a one-way latch (R35). -/
  usb_flag : Bool
  /-- Toggles the warning sequence still has to make, 0..6 (R26). -/
  blink_left : BitVec 3
  /-- `tick` at the last step of the warning sequence (R26). -/
  blink_ref : Byte
  /-- The system power supply line (R39). -/
  pwr_hold : Bool
  /-- The enable line of the full-current drive path (R40). -/
  drv_en : Bool
  /-- The mode-select line: 0 reduced (MED), 1 maximum (HIGH) (R41). -/
  drv_mode : Bool
  /-- Enables the PWM drive of the low current path (R42). -/
  pwm_en : Bool
  /-- The PWM level (R42). -/
  pwm_level : Byte
  /-- Step output of the step that led here: the watchdog acknowledge pulse (R46, log 5). -/
  wdt_kick : Bool
  /-- Step output of the step that led here: the result port (R47, log 5). -/
  res : Byte
  /-- MODEL's own: the parameters of the run (00_scope R7), which no step writes (log 2). -/
  cfg : Params
  /-- MODEL's own: the operation words the input port `opw[19:0]` (30_encoding R94) will carry, the next step's first;
  no word means that no event arrives (log 1). -/
  opw_queue : List OpWord
  deriving DecidableEq, Repr

/-- No operation faults: "No operation raises a synchronous exception" (60 R210). The type is empty, so nothing can
raise one; that is exact, neither safe nor unsafe. -/
inductive Fault where
  deriving DecidableEq, Repr

/-- Why the model gives a step no meaning. -/
inductive Refusal where
  /-- Raised by `exec` alone, for an operation that has no meaning yet; no arm raises it in this model. Safe. -/
  | notModelled (mnemonic : String)
  /-- Raised by `step` when the word on the port is a reserved encoding: "A model must refuse a run that contains a
  reserved encoding" (30_encoding R86). Safe: the hardware goes on with no register changed (log 6). -/
  | reservedEncoding (w : OpWord)
  /-- Raised by `step` when the parameters are outside their legal ranges: "A configuration outside the legal ranges of
  rule R7 is refused by the model" (00_scope R8). Safe (log 3). -/
  | illegalConfiguration
  deriving DecidableEq, Repr

/-- The state after reset: every register at the value of 10_state R53 and 70 R240. The operand of the RST is taken as
RELEASED (DESIGN CHOICE, log 4), the parameters as the test configuration TC (DESIGN CHOICE, log 2), and the
environment presents nothing (log 1). -/
def State.reset : State where
  tick := 0#8
  pin := .released
  settle_armed := false
  settle_cnt := 0
  deb_level := .released
  press_count := 0#8
  release_count := 0#8
  state := .off
  next := .low
  modifier := .solid
  phase := .boot
  ret_phase := .waitDown
  seen_press := 0#8
  seen_release := 0#8
  down_tick := 0#8
  off_ref := 0#8
  strobe_ref := 0#8
  usb_flag := false
  blink_left := 0#3
  blink_ref := 0#8
  pwr_hold := false
  drv_en := false
  drv_mode := false
  pwm_en := false
  pwm_level := 0#8
  wdt_kick := false
  res := 0#8
  cfg := Params.tc
  opw_queue := []

end Sys2Proof.Machine
end

