-- ==== Sys2Proof/Machine/Operands.lean ====
section
/-!
DEFINITION. The values operations compute with (40 R103, R106; 00_scope R6, R7; 41 R125; 42 R160, R165): all arithmetic
is on unsigned 8-bit values with wrap-around.
-/
namespace Sys2Proof.Machine

/-- `elapsed(ref, now) = (now - ref) mod 256`, an 8-bit unsigned Duration (40 R103). -/
def elapsed (ref now : Byte) : Byte := now - ref

/-- `zext_8` of a one-bit value (00_scope R9). -/
def zext8 (v : Bool) : Byte := if v then 1#8 else 0#8

/-- `BLINK_COUNT = 6`, the toggles of the thermal warning (00_scope R6). -/
def blinkCount : BitVec 3 := 6#3

/-- `HALF_SEC_TICKS = TICKS_PER_SECOND div 2` (00_scope R7). -/
def halfSecTicks (p : Params) : Nat := p.ticksPerSecond / 2

/-- The width of `settle_cnt`, "the least number of bits that holds `SETTLE_COUNT`" (10_state R27). -/
def settleWidth (p : Params) : Nat := Nat.log2 p.settleCount + 1

/-- `settle_cnt - 1` (41 R125). The value is at least 1 whenever the timer is armed (10_state R52); from 0, which no run
reaches, the subtraction wraps in the register's width (R27, 40 R106; DEDUCED, log 8). -/
def countDown (p : Params) (cnt : Nat) : Nat := if cnt = 0 then 2 ^ settleWidth p - 1 else cnt - 1

/-- The other level of a line: `!b` (00_scope R9). -/
def Modifier.flip : Modifier → Modifier
  | .solid => .strobe
  | .strobe => .solid

/-- The next state `Enter(s)` sets: LOW gives MED, MED gives HIGH, HIGH gives OFF, OFF gives LOW (42 R160). -/
def PowerState.successor : PowerState → PowerState
  | .low => .med
  | .med => .high
  | .high => .off
  | .off => .low

/-- What `Enter(s)` does to `pwr_hold`: LOW sets it, OFF clears it, MED and HIGH leave it (42 R160). -/
def PowerState.supply (p : PowerState) (held : Bool) : Bool :=
  match p with
  | .low => true
  | .off => false
  | .med => held
  | .high => held

/-- The static values of the four light-control outputs (42 R165). -/
structure Light where
  pwm_en : Bool
  pwm_level : Byte
  drv_en : Bool
  drv_mode : Bool
  deriving DecidableEq, Repr

/-- The table of 42 R165. -/
def lightOf (p : Params) : PowerState → Light
  | .off => ⟨false, 0#8, false, false⟩
  | .low => ⟨true, p.lowDuty, false, false⟩
  | .med => ⟨false, 0#8, true, false⟩
  | .high => ⟨false, 0#8, true, true⟩

end Sys2Proof.Machine
end

