-- ==== Sys2Proof/Machine/Flags.lean ====
section
/-!
DEFINITION. The one-bit tests of the block (40 R105, R106): it has no condition flags; these are the comparisons its
operations make.
-/
namespace Sys2Proof.Machine

/-- `expired(ref, thr) = (elapsed(ref, tick) >= thr)`, an unsigned comparison (40 R105; log 17). -/
def expired (s : State) (ref : Byte) (thr : Nat) : Bool := decide (thr ≤ (elapsed ref s.tick).toNat)

/-- Button-down: `press_count != seen_press` (42 R149). -/
def buttonDown (s : State) : Bool := s.press_count != s.seen_press

/-- Button-up: `release_count != seen_release` (42 R149). -/
def buttonUp (s : State) : Bool := s.release_count != s.seen_release

/-- `state > LOW`: the state is MED or HIGH (42 R147, 43 R191). -/
def aboveLow : PowerState → Bool
  | .off => false
  | .low => false
  | .med => true
  | .high => true

/-- The thermal comparator `temp > OVERTEMP_THRESHOLD` with the condition on the state (43 R190, R191). -/
def overtemp (temp : Byte) (s : State) : Bool :=
  aboveLow s.state && decide (s.cfg.overtempThreshold.toNat < temp.toNat)

end Sys2Proof.Machine
end

