-- ==== Sys2Proof/Machine/Ops.lean ====
section
/-!
DEFINITION. The operations the meanings share: the input port, the step outputs, the settle timer (41 R123, R126), the
light outputs and the entry of a state (42 R160, R165), and the thermal override's entry and return (43 R192, R195;
60 R218, R219), the only trap the block has. The pseudocode is sequential: a later write sees an earlier one (00_scope R10).
-/
namespace Sys2Proof.Machine

/-! ### The input port -/

/-- The word on the port in this step: the next one the environment presents, or `0x00000`, NOP, "a step in which no
event arrives" (40 R100; 30_encoding R94; log 1). -/
def State.portWord (s : State) : OpWord := s.opw_queue.headD 0x00000#20

/-- The word on the port "is not kept" (20 R73). -/
def State.takeWord (s : State) : State := { s with opw_queue := s.opw_queue.tail }

/-! ### The end of an operation -/

/-- The step outputs `wdt_kick` and `res` of the operation (10_state R46, R47). -/
def State.withOutputs (kick : Bool) (res : Byte) (s : State) : State := { s with wdt_kick := kick, res := res }

/-- An operation that completes: every one does (60 R210). -/
def complete (kick : Bool) (res : Byte) (s : State) : Host.Outcome State Fault Refusal := .next (s.withOutputs kick res)

/-! ### The settle timer -/

/-- `Arm()` (41 R123): "It loads the full delay whether or not the timer was already armed". -/
def arm (s : State) : State := { s with settle_armed := true, settle_cnt := s.cfg.settleCount }

/-- The counter an actual level change increments (41 R126). -/
def countEdge (s : State) : State :=
  match s.pin with
  | .pressed => { s with press_count := s.press_count + 1#8 }
  | .released => { s with release_count := s.release_count + 1#8 }

/-- `Expire()` (41 R126). -/
def expire (s : State) : State :=
  let sampled := if s.pin ≠ s.deb_level then countEdge { s with deb_level := s.pin } else s
  { sampled with settle_armed := false }

/-! ### Light outputs and the entry of a state -/

/-- `ApplyLight(p)` (42 R165). -/
def applyLight (p : PowerState) (s : State) : State :=
  { s with
    pwm_en := (lightOf s.cfg p).pwm_en
    pwm_level := (lightOf s.cfg p).pwm_level
    drv_en := (lightOf s.cfg p).drv_en
    drv_mode := (lightOf s.cfg p).drv_mode }

/-- `Enter(p)` (42 R160). -/
def enter (p : PowerState) (s : State) : State :=
  applyLight p { s with pwr_hold := p.supply s.pwr_hold, next := p.successor, state := p }

/-! ### The thermal override -/

/-- `ThermTrigger()` (43 R192), the entry of the override: `phase` is saved in `ret_phase` (60 R218). -/
def thermTrigger (s : State) : State :=
  { applyLight .med s with
    blink_left := blinkCount
    blink_ref := s.tick
    ret_phase := s.phase
    phase := .therm }

/-- `ThermFinish()` (43 R195), the return of the override: `phase` comes back from `ret_phase` (60 R219). -/
def thermFinish (s : State) : State :=
  { applyLight .low s with
    state := .low
    next := .off
    phase := s.ret_phase }

end Sys2Proof.Machine
end

