-- ==== Sys2Proof/Machine/Thermal.lean ====
section
/-!
DEFINITION. The thermal supervisor (43_thermal_supervisor): the comparator inside the idle routine and the warning
sequence that is POLL's phase P_THERM. The entry and the return of the override stand in Ops.lean.
-/
namespace Sys2Proof.Machine

/-- `ThermCheck(temp)` (43 R191). -/
def thermCheck (temp : Byte) (s : State) : State := if overtemp temp s then thermTrigger s else s

/-- `ThermToggle()` (43 R194). -/
def thermToggle (s : State) : State :=
  { s with drv_en := !s.drv_en, blink_left := s.blink_left - 1#3, blink_ref := s.tick }

/-- `ThermStep()` (43 R193). -/
def thermStep (s : State) : State :=
  if expired s s.blink_ref (halfSecTicks s.cfg) then
    if s.blink_left ≠ 0#3 then thermToggle s else thermFinish s
  else s

end Sys2Proof.Machine
end

