-- ==== Sys2Proof/Machine/Brightness.lean ====
section
/-!
DEFINITION. The brightness state machine and the main sequencer: POLL (42_brightness_fsm).
-/
namespace Sys2Proof.Machine

/-! ### Boot (R143) -/

/-- `Boot(usbboot)` (42 R143). -/
def boot (usbboot : Bool) (s : State) : State :=
  let flagged := { s with usb_flag := s.usb_flag || usbboot }
  match s.pin with
  | .pressed => { enter flagged.next flagged with phase := .waitDown }
  | .released => { enter .off flagged with phase := .offRel }

/-! ### The idle routine (R145) -/

/-- `IdleChg(chg)` (42 R146). -/
def idleChg (chg : Bool) (s : State) : State := if chg then { s with usb_flag := true } else s

/-- The toggle of the strobe, made only while `modifier = STROBE` and `state > LOW` (42 R147). -/
def strobeToggle (s : State) : State :=
  if s.modifier = .strobe ∧ aboveLow s.state = true then { s with drv_en := !s.drv_en } else s

/-- `IdleStrobe()` (42 R147): the interval timer runs freely, whatever the modifier and the state are. -/
def idleStrobe (s : State) : State :=
  if expired s s.strobe_ref s.cfg.strobeHalfTicks then strobeToggle { s with strobe_ref := s.tick } else s

/-- `Idle(temp, chg)` (42 R145): the charge latch, the strobe, the thermal check, in this order. -/
def idle (temp : Byte) (chg : Bool) (s : State) : State := thermCheck temp (idleStrobe (idleChg chg s))

/-! ### The wait tests (R150 to R154) -/

/-- `WaitDown()` (42 R150). -/
def waitDown (s : State) : State :=
  if buttonDown s then { s with seen_press := s.press_count, down_tick := s.tick, phase := .waitUp } else s

/-- `ShortAction()` (42 R152): the target is read first, and the modifier is reset before OFF is entered. -/
def shortAction (s : State) : State :=
  let t := s.next
  let reset := if t = .off then { s with modifier := .solid } else s
  { enter t reset with phase := if t = .off then .offRel else .waitDown }

/-- The toggle of the modifier by a LONG press (42 R153): STROBE to SOLID applies the state's static light again. -/
def toggleModifier (s : State) : State :=
  let toggled := { s with modifier := s.modifier.flip }
  if toggled.modifier = .solid then applyLight toggled.state toggled else toggled

/-- `LongAction()` (42 R153): in OFF it enters the next state and leaves the modifier. -/
def longAction (s : State) : State :=
  { (if s.state = .off then enter s.next s else toggleModifier s) with phase := .waitRel }

/-- `WaitUp()` (42 R151): the release is tested before the long-press threshold. -/
def waitUp (s : State) : State :=
  if buttonUp s then shortAction { s with seen_release := s.release_count }
  else if expired s s.down_tick s.cfg.longTicks then longAction s
  else s

/-- `WaitRel()` (42 R154). -/
def waitRel (s : State) : State :=
  if buttonUp s then { s with seen_release := s.release_count, phase := .waitDown } else s

/-! ### OFF entry (R171, R172) -/

/-- `OffRel()` (42 R171): it reads the raw `pin`. -/
def offRel (s : State) : State :=
  if s.pin = .released then { s with off_ref := s.tick, phase := .offSettle } else s

/-- `OffSettle()` (42 R172). -/
def offSettle (s : State) : State :=
  if expired s s.off_ref s.cfg.offSettleTicks then { s with usb_flag := true, phase := .waitDown } else s

/-! ### POLL (R140) -/

/-- One spin of a wait phase: the idle routine, then the wait test unless the idle routine started the thermal sequence
(42 R140, R148). -/
def spinWait (temp : Byte) (chg : Bool) (test : State → State) (s : State) : State :=
  let idled := idle temp chg s
  if idled.phase = s.phase then test idled else idled

/-- What POLL does in each phase (42 R140). -/
def pollPhase (temp : Byte) (chg usbboot : Bool) (s : State) : State :=
  match s.phase with
  | .boot => boot usbboot s
  | .waitDown => spinWait temp chg waitDown s
  | .waitUp => spinWait temp chg waitUp s
  | .waitRel => spinWait temp chg waitRel s
  | .offRel => offRel s
  | .offSettle => offSettle s
  | .therm => thermStep s
  | .reserved => s

/-- POLL (42 R140): `wdt_kick = 1; res = 0` in every phase (R142). -/
def execPoll (temp : Byte) (chg usbboot : Bool) (s : State) : Host.Outcome State Fault Refusal :=
  complete true 0#8 (pollPhase temp chg usbboot s)

end Sys2Proof.Machine
end

