-- ==== Sys2Proof/Machine/Debounce.lean ====
section
/-!
DEFINITION. The button debounce: PIN and SCLK (41_button_debounce).
-/
namespace Sys2Proof.Machine

/-- PIN (41 R121): a level change loads `pin` and arms the settle timer; "A PIN whose `level` equals `pin` is not a level
change and does nothing" (R122). -/
def execPin (level : Level) (s : State) : Host.Outcome State Fault Refusal :=
  complete false 0#8 (if level ≠ s.pin then arm { s with pin := level } else s)

/-- The countdown of an armed settle timer; at the value 0 just written, the expiry (41 R125). -/
def settleStep (s : State) : State :=
  let counted := { s with settle_cnt := countDown s.cfg s.settle_cnt }
  if counted.settle_cnt = 0 then expire counted else counted

/-- SCLK (41 R125): "While the timer is not armed SCLK does nothing." -/
def execSclk (s : State) : Host.Outcome State Fault Refusal :=
  complete false 0#8 (if s.settle_armed then settleStep s else s)

end Sys2Proof.Machine
end

