-- ==== Sys2Proof/Machine/Reset.lean ====
section
/-!
DEFINITION. RST (70_reset_and_hazards).
-/
namespace Sys2Proof.Machine

/-- Every register of 10_state section 1 at its reset value, `pin` at the operand (70 R240, 10_state R53). What is no
register stays: the parameters, constants of the run, and the words the environment will present. -/
def resetRegisters (level : Level) (s : State) : State :=
  { s with
    tick := 0#8
    pin := level
    settle_armed := false
    settle_cnt := 0
    deb_level := .released
    press_count := 0#8
    release_count := 0#8
    state := .off
    next := .low
    modifier := .solid
    phase := .boot
    ret_phase := .waitDown
    seen_press := 0#8
    seen_release := 0#8
    down_tick := 0#8
    off_ref := 0#8
    strobe_ref := 0#8
    usb_flag := false
    blink_left := 0#3
    blink_ref := 0#8
    pwr_hold := false
    drv_en := false
    drv_mode := false
    pwm_en := false
    pwm_level := 0#8 }

/-- RST (70 R240). -/
def execRst (level : Level) (s : State) : Host.Outcome State Fault Refusal :=
  complete false 0#8 (resetRegisters level s)

end Sys2Proof.Machine
end

