-- ==== Sys2Proof/Machine/TickClock.lean ====
section
/-!
DEFINITION. The Tick clock: NOP, TICK, NOW, ELAPSED, EXPIRED (40_tick_clock).
-/
namespace Sys2Proof.Machine

/-- NOP (40 R100): "It writes no register and no flag." -/
def execNop (s : State) : Host.Outcome State Fault Refusal := complete false 0#8 s

/-- TICK (40 R101): `tick <- (tick + 1) mod 256`. -/
def execTick (s : State) : Host.Outcome State Fault Refusal := complete false 0#8 { s with tick := s.tick + 1#8 }

/-- NOW (40 R102): `res = tick`. -/
def execNow (s : State) : Host.Outcome State Fault Refusal := complete false s.tick s

/-- ELAPSED (40 R103): `res = elapsed(ref, now)`; it does not read `tick`. -/
def execElapsed (ref now : Byte) (s : State) : Host.Outcome State Fault Refusal := complete false (elapsed ref now) s

/-- EXPIRED (40 R105): `res = zext_8(expired(ref, thr))`. -/
def execExpired (ref thr : Byte) (s : State) : Host.Outcome State Fault Refusal :=
  complete false (zext8 (expired s ref thr.toNat)) s

end Sys2Proof.Machine
end

