-- ==== Sys2Proof/Machine/Dispatch.lean ====
section
/-!
DEFINITION. One arm per operation (30_encoding R82).
-/
namespace Sys2Proof.Machine

def exec (i : Instr) (s : State) : Host.Outcome State Fault Refusal :=
  match i with
  | .nop => Sys2Proof.Machine.execNop s
  | .tick => Sys2Proof.Machine.execTick s
  | .now => Sys2Proof.Machine.execNow s
  | .elapsed ref now => Sys2Proof.Machine.execElapsed ref now s
  | .expired ref thr => Sys2Proof.Machine.execExpired ref thr s
  | .pin level => Sys2Proof.Machine.execPin level s
  | .sclk => Sys2Proof.Machine.execSclk s
  | .poll temp chg usbboot => Sys2Proof.Machine.execPoll temp chg usbboot s
  | .rst level => Sys2Proof.Machine.execRst level s

end Sys2Proof.Machine
end

