-- ==== Sys2Proof/Machine/Step.lean ====
section
/-!
DEFINITION. One step: exactly one operation, the one whose word is on the input port (00_scope R13, 30_encoding R94). A
configuration outside its legal ranges is refused (00_scope R8, log 3), and so is a reserved encoding (30_encoding R86,
log 6).
-/
namespace Sys2Proof.Machine

/-- The step of the block. -/
def step (s : State) : Host.Outcome State Fault Refusal :=
  if s.cfg.legal then
    match decode s.portWord with
    | .instr i => exec i s.takeWord
    | .reserved _ => .refused (.reservedEncoding s.portWord)
  else .refused .illegalConfiguration

/-- The state in which the environment presents the word `w` next: the words after it stay (log 1, 15). -/
def State.withFetchWord (s : State) (nbits w : Nat) : State :=
  { s with opw_queue := opwOfNumber nbits w :: s.opw_queue.tail }

end Sys2Proof.Machine
end

