-- ==== Sys2Proof/Machine/Arbiter.lean ====
section
/-!
DEFINITION. The arbiter (60 R216, 30_encoding R94): the events of one physical instant as operations in a fixed order. The
step needs none ("A model that does not model physical instants needs no arbiter"); this is how a gate-level realisation
fills the input port (log 9).
-/
namespace Sys2Proof.Machine

/-- A query of the environment (60 R216). -/
inductive Query where
  | now
  | elapsed (ref now : Byte)
  | expired (ref thr : Byte)
  deriving DecidableEq, Repr

/-- What the main sequencer's spin pulse comes with: the cached temperature, the charge-detect input and the boot-time
external-power verdict (30_encoding R94). -/
structure Spin where
  temp : Byte
  chg : Bool
  usbboot : Bool
  deriving DecidableEq, Repr

/-- The events of one physical instant (30_encoding R94, 60 R216). -/
structure Events where
  /-- The reset line, with the level of the pin. -/
  reset : Option Level
  /-- The timer-overflow pulse. -/
  overflow : Bool
  /-- The new level of the pin, when it changed. -/
  pinChange : Option Level
  /-- The settle time-base pulse. -/
  settlePulse : Bool
  /-- The main sequencer's spin pulse. -/
  spin : Option Spin
  /-- The query port. -/
  query : Option Query
  deriving DecidableEq, Repr

/-- The operation of a query. -/
def Query.instr : Query → Instr
  | .now => .now
  | .elapsed ref until_ => .elapsed ref until_
  | .expired ref thr => .expired ref thr

/-- The operations of an instant, in the order of 60 R216: RST first (and it discards the others), then TICK, then PIN,
then SCLK, then POLL, then a query. -/
def arbiter (e : Events) : List Instr :=
  match e.reset with
  | some level => [.rst level]
  | none =>
    (if e.overflow then [.tick] else []) ++ (e.pinChange.map Instr.pin).toList ++
      (if e.settlePulse then [.sclk] else []) ++
      (e.spin.map fun x => Instr.poll x.temp x.chg x.usbboot).toList ++ (e.query.map Query.instr).toList

/-- The state in which the environment will present the operations of an instant after those it already will. -/
def State.present (e : Events) (s : State) : State :=
  { s with opw_queue := s.opw_queue ++ (arbiter e).map encode }

end Sys2Proof.Machine
end

