-- ==== Sys2Proof/Machine/Ports.lean ====
section
/-!
DEFINITION. The output ports (30_encoding R95) with the codes of the enumerations (00_scope R12). "Each register port
shows the register's current value, without delay and without side effect."
-/
namespace Sys2Proof.Machine

/-- `OFF = 0`, `LOW = 1`, `MED = 2`, `HIGH = 3` (00_scope R12). -/
def PowerState.code : PowerState → BitVec 2
  | .off => 0#2
  | .low => 1#2
  | .med => 2#2
  | .high => 3#2

/-- `SOLID = 0`, `STROBE = 1` (00_scope R12). -/
def Modifier.code : Modifier → BitVec 1
  | .solid => 0#1
  | .strobe => 1#1

/-- The phase codes (00_scope R12). -/
def Phase.code : Phase → BitVec 3
  | .boot => 0#3
  | .waitDown => 1#3
  | .waitUp => 2#3
  | .waitRel => 3#3
  | .offRel => 4#3
  | .offSettle => 5#3
  | .therm => 6#3
  | .reserved => 7#3

/-- The output ports of the block (30_encoding R95). -/
structure OutPorts where
  tick_o : Byte
  press_count_o : Byte
  release_count_o : Byte
  state_o : BitVec 2
  next_o : BitVec 2
  modifier_o : BitVec 1
  phase_o : BitVec 3
  usb_flag_o : Bool
  pwr_hold : Bool
  drv_en : Bool
  drv_mode : Bool
  pwm_en : Bool
  pwm_level : Byte
  wdt_kick : Bool
  res : Byte
  deriving DecidableEq, Repr

/-- What the ports show. -/
def State.ports (s : State) : OutPorts where
  tick_o := s.tick
  press_count_o := s.press_count
  release_count_o := s.release_count
  state_o := s.state.code
  next_o := s.next.code
  modifier_o := s.modifier.code
  phase_o := s.phase.code
  usb_flag_o := s.usb_flag
  pwr_hold := s.pwr_hold
  drv_en := s.drv_en
  drv_mode := s.drv_mode
  pwm_en := s.pwm_en
  pwm_level := s.pwm_level
  wdt_kick := s.wdt_kick
  res := s.res

end Sys2Proof.Machine
end

