-- ==== Sys2Proof/Safety.lean ====
section
/-!
DEFINITION. The terms claims are stated in: runs of operations, which registers an operation leaves alone, what the idle
routine leaves when the thermal check does not fire, the invariants of 10_state section 8 and of the light outputs, and
the shift of the Tick clock.
-/
namespace Sys2Proof.Machine

/-! ### Runs -/

/-- The operations of a list, one after another, each seeing all the writes of the earlier ones (20 R69). -/
def execAll : List Instr → State → Host.Outcome State Fault Refusal
  | [], s => .next s
  | i :: rest, s =>
    match exec i s with
    | .next t => execAll rest t
    | .fault r => .fault r
    | .refused r => .refused r

/-- The arbiter's fixed order as numbers (60 R216): RST, TICK, PIN, SCLK, POLL, a query; NOP is no event. -/
def arbiterRank : Instr → Nat
  | .rst _ => 0
  | .tick => 1
  | .pin _ => 2
  | .sclk => 3
  | .poll _ _ _ => 4
  | .now | .elapsed _ _ | .expired _ _ => 5
  | .nop => 6

/-! ### Frames -/

/-- The registers only PIN and SCLK write (20 R65). -/
structure SameDebounce (s t : State) : Prop where
  pin : t.pin = s.pin
  settle_armed : t.settle_armed = s.settle_armed
  settle_cnt : t.settle_cnt = s.settle_cnt
  deb_level : t.deb_level = s.deb_level
  press_count : t.press_count = s.press_count
  release_count : t.release_count = s.release_count

/-- The registers of the sequencer and the thermal supervisor, which only POLL writes (20 R65). -/
structure SameSequencer (s t : State) : Prop where
  state : t.state = s.state
  next : t.next = s.next
  modifier : t.modifier = s.modifier
  phase : t.phase = s.phase
  ret_phase : t.ret_phase = s.ret_phase
  seen_press : t.seen_press = s.seen_press
  seen_release : t.seen_release = s.seen_release
  down_tick : t.down_tick = s.down_tick
  off_ref : t.off_ref = s.off_ref
  strobe_ref : t.strobe_ref = s.strobe_ref
  usb_flag : t.usb_flag = s.usb_flag
  blink_left : t.blink_left = s.blink_left
  blink_ref : t.blink_ref = s.blink_ref

/-- The light outputs and the supply line, which only POLL writes (10_state R43, 20 R65). -/
structure SameOutputs (s t : State) : Prop where
  pwr_hold : t.pwr_hold = s.pwr_hold
  drv_en : t.drv_en = s.drv_en
  drv_mode : t.drv_mode = s.drv_mode
  pwm_en : t.pwm_en = s.pwm_en
  pwm_level : t.pwm_level = s.pwm_level

/-- What is no register of the block: the parameters of the run and the words to come. -/
structure SameRun (s t : State) : Prop where
  cfg : t.cfg = s.cfg
  opw_queue : t.opw_queue = s.opw_queue

/-! ### The wait phases -/

/-- The phases in which the idle routine runs (42 R144). -/
def Phase.waits (p : Phase) : Bool := decide (p = .waitDown ∨ p = .waitUp ∨ p = .waitRel)

/-- The state is MED or HIGH (43 R191). -/
def State.isBright (s : State) : Bool := decide (s.state = .med ∨ s.state = .high)

/-- "current state is MED or HIGH and the cached temperature sample exceeds the configured overtemp threshold" (43 R191). -/
def State.overheats (s : State) (temp : Byte) : Bool :=
  s.isBright && decide (s.cfg.overtempThreshold.toNat < temp.toNat)

/-- `n` ticks have passed since `ref`, by the modular difference: `(tick - ref) mod 256 >= n` (40 R105). -/
def State.due (s : State) (ref : Byte) (n : Nat) : Bool := decide (n ≤ (s.tick.toNat + 256 - ref.toNat) % 256)

/-- The strobe toggles in this idle POLL: the interval is due, `modifier = STROBE`, and the state is MED or HIGH (42 R147). -/
def State.strobes (s : State) : Bool :=
  s.due s.strobe_ref s.cfg.strobeHalfTicks && decide (s.modifier = .strobe) && s.isBright

/-- The state after duties (3) and (4) of the idle routine (42 R146, R147), as one record, with the step outputs of POLL. -/
def State.idled (s : State) (chg : Bool) : State :=
  { s with
    usb_flag := s.usb_flag || chg
    strobe_ref := if s.due s.strobe_ref s.cfg.strobeHalfTicks then s.tick else s.strobe_ref
    drv_en := if s.strobes then !s.drv_en else s.drv_en
    wdt_kick := true
    res := 0#8 }

/-! ### Invariants -/

/-- 10_state R51: the two button counters are never further apart than the debounced level says. -/
structure CountersAgree (s : State) : Prop where
  pressed : s.deb_level = .pressed → s.press_count - s.release_count = 1#8
  released : s.deb_level = .released → s.press_count = s.release_count

/-- 10_state R52, with the clauses its induction needs: before the boot step and in OFF entry the state is OFF, in the
warning sequence it is MED or HIGH, `ret_phase` is a wait phase (R30), and the supply is held exactly outside OFF (60 R226). -/
structure SequencerWf (s : State) : Prop where
  off_next : s.state = .off → s.next = .low
  off_modifier : s.state = .off → s.modifier = .solid
  med_next : s.state = .med → s.next = .high
  high_next : s.state = .high → s.next = .off
  low_next : s.state = .low → s.next = .med ∨ s.next = .off
  disarmed : s.settle_armed = false → s.settle_cnt = 0
  armed : s.settle_armed = true → 1 ≤ s.settle_cnt ∧ s.settle_cnt ≤ s.cfg.settleCount
  phase_legal : s.phase ≠ .reserved
  blinks : s.blink_left.toNat ≤ 6
  off_entry : s.phase = .offRel ∨ s.phase = .offSettle → s.state = .off
  before_boot : s.phase = .boot → s.state = .off
  warning : s.phase = .therm → s.isBright
  returns : s.ret_phase.waits
  supply : s.pwr_hold = true ↔ s.state ≠ .off

/-- The light outputs (42 R165, R166; 43 R194): outside the warning sequence they hold the static values of the state,
but for `drv_en` while STROBE toggles it in MED and HIGH; inside it they hold those of MED, but for `drv_en`, which is 1
exactly when an even number of toggles is left. -/
structure LightWf (s : State) : Prop where
  static_pwm_en : s.phase ≠ .therm → s.pwm_en = (lightOf s.cfg s.state).pwm_en
  static_pwm_level : s.phase ≠ .therm → s.pwm_level = (lightOf s.cfg s.state).pwm_level
  static_drv_mode : s.phase ≠ .therm → s.drv_mode = (lightOf s.cfg s.state).drv_mode
  static_drv_en : s.phase ≠ .therm → ¬(s.modifier = .strobe ∧ s.isBright) → s.drv_en = (lightOf s.cfg s.state).drv_en
  warning_pwm : s.phase = .therm → s.pwm_en = false ∧ s.pwm_level = 0#8
  warning_mode : s.phase = .therm → s.drv_mode = false
  warning_drv_en : s.phase = .therm → s.drv_en = decide (s.blink_left.toNat % 2 = 0)

/-- "A claim about 'the device is off'" (70 R246). -/
def State.deviceOff (s : State) : Prop :=
  s.state = .off ∧ s.pwr_hold = false ∧ s.pwm_en = false ∧ s.drv_en = false

/-! ### The shift of the Tick clock (10_state R53) -/

/-- The state with `d` added to the Tick and to every register that holds a tick value. -/
def State.shiftTicks (d : Byte) (s : State) : State :=
  { s with
    tick := s.tick + d
    down_tick := s.down_tick + d
    off_ref := s.off_ref + d
    strobe_ref := s.strobe_ref + d
    blink_ref := s.blink_ref + d }

/-- The operation with `d` added to its operands in the tick domain (30_encoding R84: `ref` and `now`; `thr` is a
duration). -/
def shiftOperands (d : Byte) : Instr → Instr
  | .elapsed ref until_ => .elapsed (ref + d) (until_ + d)
  | .expired ref thr => .expired (ref + d) thr
  | .nop => .nop
  | .tick => .tick
  | .now => .now
  | .pin level => .pin level
  | .sclk => .sclk
  | .poll temp chg usbboot => .poll temp chg usbboot
  | .rst level => .rst level

/-! ### Bursts of the button (41 R129) -/

/-- The other level. -/
def otherLevel : Level → Level
  | .released => .pressed
  | .pressed => .released

/-- A burst: level changes from `level`, each followed by as many SCLK as the list says. -/
def burst (level : Level) : List Nat → List Instr
  | [] => []
  | k :: rest => .pin (otherLevel level) :: (List.replicate k .sclk ++ burst (otherLevel level) rest)

/-- The pairs `TICK`, `POLL` with the operands of a list. -/
def tickPolls : List Spin → List Instr
  | [] => []
  | x :: rest => .tick :: .poll x.temp x.chg x.usbboot :: tickPolls rest

end Sys2Proof.Machine
end

