-- ==== Sys2Proof/Certificates/Slice0/Obligations.lean ====
section
/-!
DEFINITION. The statements for the provers. Each docstring names the rules of spec/ it comes from. A rule the spec marks
"[derived: ...]" is an inference of the spec; a statement that rests on one says so.
-/

open Sys2Proof Sys2Proof.Machine

/-! ### Encoding -/

/-- Words written out from the pattern column of 30_encoding R83 decode to the operations they stand for (the fifteen
words of 95 E1 to E11 and E16), and six of the reserved words of 95 E12 to E15 are reserved, for the reason they are. -/
def Obligations.SpecWordsDecode : Prop :=
  decode 0b00000000000000000000#20 = .instr .nop ∧
  decode 0b00010000000000000000#20 = .instr .tick ∧
  decode 0b00100000000000000000#20 = .instr .now ∧
  decode 0b00111111101000000100#20 = .instr (.elapsed 250#8 4#8) ∧
  decode 0b01001111101000001010#20 = .instr (.expired 250#8 10#8) ∧
  decode 0b01010000000000000001#20 = .instr (.pin .pressed) ∧
  decode 0b01100000000000000000#20 = .instr .sclk ∧
  decode 0b01111100100100000001#20 = .instr (.poll 201#8 true false) ∧
  decode 0b01110000000000000010#20 = .instr (.poll 0#8 false true) ∧
  decode 0b01111111111100000011#20 = .instr (.poll 255#8 true true) ∧
  decode 0b11110000000000000001#20 = .instr (.rst .pressed) ∧
  decode 0b00110000000000000000#20 = .instr (.elapsed 0#8 0#8) ∧
  decode 0b00111111111111111111#20 = .instr (.elapsed 255#8 255#8) ∧
  decode 0b01000000000000000000#20 = .instr (.expired 0#8 0#8) ∧
  decode 0b01001111111111111111#20 = .instr (.expired 255#8 255#8) ∧
  decode 0x80000#20 = .reserved .operationCode ∧ decode 0xE0000#20 = .reserved .operationCode ∧
  decode 0x20100#20 = .reserved .operandBits ∧ decode 0x50002#20 = .reserved .operandBits ∧
  decode 0x70004#20 = .reserved .operandBits ∧ decode 0xF0100#20 = .reserved .operandBits

/-- Every operation, with every operand value its encoding admits, is what the decoder reads from its word. -/
def Obligations.DecodeEncodeRoundTrip : Prop :=
  ∀ i : Instr, decode (encode i) = .instr i

/-- Every word the decoder accepts is the word of the operation it reads: no two words stand for one operation, so
every reserved operand bit is looked at. -/
def Obligations.EncodeDecodeRoundTrip : Prop :=
  ∀ (w : OpWord) (i : Instr), decode w = .instr i → encode i = w

/-- The decoder, written from the fields of R81, and the match and mask columns of R83 agree on all 2^20 words: an
accepted word selects exactly the row of the operation read, a reserved word selects none. -/
def Obligations.DecoderAgreesWithMatchMaskTable : Prop :=
  ∀ w : OpWord,
    (∀ i, decode w = .instr i → rowsOf w = [i.mnemonic]) ∧ (∀ why, decode w = .reserved why → rowsOf w = [])

/-- Which words are reserved, and why (R85, R86): codes 0x8 to 0xE for the one reason, a known code with an unused
operand bit set for the other; `w / 65536`, `w / 256 % 256` and `w % 256` are `op`, `a` and `b` (R81). -/
def Obligations.ReservedWordsByFields : Prop :=
  ∀ w : OpWord,
    (decode w = .reserved .operationCode ↔ 8 ≤ w.toNat / 65536 ∧ w.toNat / 65536 ≤ 14) ∧
    (decode w = .reserved .operandBits ↔
      (w.toNat / 65536 ∈ [0, 1, 2, 6] ∧ w.toNat % 65536 ≠ 0) ∨
      (w.toNat / 65536 ∈ [5, 15] ∧ 2 ≤ w.toNat % 65536) ∨
      (w.toNat / 65536 = 7 ∧ 4 ≤ w.toNat % 256))

/-- The operation word as a number is `op * 65536 + a * 256 + b` (R81), with the operands of R84 in their places. -/
def Obligations.EncodedWordAsNumber : Prop :=
  (∀ ref until_ : Byte, (encode (.elapsed ref until_)).toNat = 3 * 65536 + ref.toNat * 256 + until_.toNat) ∧
  (∀ ref thr : Byte, (encode (.expired ref thr)).toNat = 4 * 65536 + ref.toNat * 256 + thr.toNat) ∧
  (∀ (temp : Byte) (chg usbboot : Bool),
    (encode (.poll temp chg usbboot)).toNat = 7 * 65536 + temp.toNat * 256 + usbboot.toNat * 2 + chg.toNat) ∧
  (∀ level : Level, (encode (.pin level)).toNat = 5 * 65536 + level.bit.toNat) ∧
  (∀ level : Level, (encode (.rst level)).toNat = 15 * 65536 + level.bit.toNat)

/-- The pseudo-operations expand as R91 says, and the trailing operands of POLL may be left out and are then 0 (R90). -/
def Obligations.PseudoOperationsExpand : Prop :=
  (∀ (p : Params) (n : Nat), Pseudo.expand p (.ticks n) = List.replicate n .tick) ∧
  (∀ p : Params, Pseudo.expand p (.spin 0) = []) ∧
  (∀ (p : Params) (n : Nat),
    Pseudo.expand p (.spin (n + 1)) = [.tick, .poll 0#8 false false] ++ Pseudo.expand p (.spin n)) ∧
  (∀ p : Params, Pseudo.expand p .settle = List.replicate p.settleCount .sclk) ∧
  (∀ p : Params, Pseudo.expand p .press = .pin .pressed :: Pseudo.expand p .settle) ∧
  (∀ p : Params, Pseudo.expand p .release = .pin .released :: Pseudo.expand p .settle) ∧
  assemble ⟨.POLL, []⟩ = some (.poll 0#8 false false) ∧
  assemble ⟨.POLL, [201]⟩ = some (.poll 201#8 false false) ∧
  assemble ⟨.POLL, [201, 1, 0]⟩ = some (.poll 201#8 true false)

/-! ### The step -/

/-- A STEP RUNS THE DECODED OPERATION: with a legal configuration and a word on the port that decodes to `i`, the step is
`exec i` with that word taken off the port (00_scope R13, 30_encoding R94). -/
def Obligations.StepRunsDecodedWord : Prop :=
  ∀ (s : State) (w : OpWord) (rest : List OpWord) (i : Instr),
    s.cfg.legal = true → s.opw_queue = w :: rest → decode w = .instr i →
    step s = exec i { s with opw_queue := rest }

/-- With no word presented the step is NOP, "a step in which no event arrives" (40 R100); that an empty port carries the
word of NOP is the model's reading, log 1. -/
def Obligations.StepWithoutWordIsNop : Prop :=
  ∀ s : State, s.cfg.legal = true → s.opw_queue = [] → step s = exec .nop s

/-- A model must refuse a reserved encoding (30_encoding R86) and a configuration outside the legal ranges (00_scope
R8); these are the only stops of a step. The model's choices in it: a reserved word is refused at the step that performs
it (log 6), an illegal configuration by every step (log 3), and an empty list of words carries `0x00000` (log 1). -/
def Obligations.StepRefusesExactlyReservedOrIllegal : Prop :=
  (∀ s : State, s.cfg.legal = false → step s = .refused .illegalConfiguration) ∧
  (∀ (s : State) (w : OpWord) (rest : List OpWord) (why : Reserved),
    s.cfg.legal = true → s.opw_queue = w :: rest → decode w = .reserved why →
    step s = .refused (.reservedEncoding w)) ∧
  (∀ s : State, (∃ t, step s = .next t) ↔
    s.cfg.legal = true ∧ ∃ i, decode (s.opw_queue.headD 0x00000#20) = .instr i)

/-- The legal ranges of 00_scope R7, the derived `HALF_SEC_TICKS` among them. -/
def Obligations.LegalConfigurationRanges : Prop :=
  ∀ p : Params, p.legal = true ↔
    (2 ≤ p.ticksPerSecond ∧ p.ticksPerSecond ≤ 254) ∧ (1 ≤ halfSecTicks p ∧ halfSecTicks p ≤ 127) ∧
    (1 ≤ p.longTicks ∧ p.longTicks ≤ 127) ∧ (1 ≤ p.strobeHalfTicks ∧ p.strobeHalfTicks ≤ 127) ∧
    (1 ≤ p.offSettleTicks ∧ p.offSettleTicks ≤ 127) ∧ 1 ≤ p.settleCount

/-- "Every operation with a legal encoding completes and is total on every state" (60 R210). -/
def Obligations.EveryOperationCompletes : Prop :=
  ∀ (i : Instr) (s : State), ∃ t, exec i s = .next t

/-- A program of words is its operations one after another (20 R69): stepping through the words of a list of operations
is running the operations, and leaves the words after them. That the words to come are the list `opw_queue` of State is
the model's choice (log 1). -/
def Obligations.StepsRunTheWordsInOrder : Prop :=
  ∀ (is : List Instr) (rest : List OpWord) (s : State), s.cfg.legal = true →
    Host.Core.run core is.length { s with opw_queue := is.map encode ++ rest } =
      execAll is { s with opw_queue := rest }

/-- "No operation sees a write of a later operation" (20 R69), for the model's own field `opw_queue` of the words still to
come (the model's choice, log 1): what an operation does is independent of them, and it leaves them. -/
def Obligations.OperationsIgnoreLaterWords : Prop :=
  ∀ (i : Instr) (ws : List OpWord) (s t : State), exec i s = .next t →
    t.opw_queue = s.opw_queue ∧ exec i { s with opw_queue := ws } = .next { t with opw_queue := ws }

/-- The parameters are "fixed for a whole run" (00_scope R7): no step changes one. -/
def Obligations.StepKeepsParameters : Prop :=
  ∀ s t : State, step s = .next t → t.cfg = s.cfg

/-! ### Tick clock -/

/-- NOP writes no register (40 R100). -/
def Obligations.NopWritesNothing : Prop :=
  (∀ s : State, exec .nop s = .next { s with res := 0#8, wdt_kick := false }) ∧ encode .nop = 0x00000#20

/-- TICK writes `tick` and nothing else, with silent wrap at 256, and is the only operation besides RST that writes it
(40 R101). -/
def Obligations.TickAdvancesModulo256 : Prop :=
  (∀ s : State, exec .tick s =
    .next { s with tick := BitVec.ofNat 8 ((s.tick.toNat + 1) % 256), res := 0#8, wdt_kick := false }) ∧
  encode .tick = 0x10000#20 ∧
  (∀ (i : Instr) (s t : State), exec i s = .next t → t.tick ≠ s.tick → i = .tick ∨ ∃ level, i = .rst level)

/-- NOW returns `tick` and writes no register (40 R102). -/
def Obligations.NowReturnsTick : Prop :=
  (∀ s : State, exec .now s = .next { s with res := s.tick, wdt_kick := false }) ∧ encode .now = 0x20000#20

/-- ELAPSED returns `(now - ref) mod 256`, does not read `tick` and writes no register (40 R103). -/
def Obligations.ElapsedReturnsModularDifference : Prop :=
  (∀ (ref until_ : Byte) (s : State), exec (.elapsed ref until_) s =
    .next { s with res := BitVec.ofNat 8 ((until_.toNat + 256 - ref.toNat) % 256), wdt_kick := false }) ∧
  (∀ ref until_ : Byte, (encode (.elapsed ref until_)).toNat = 0x30000 + ref.toNat * 256 + until_.toNat)

/-- EXPIRED returns 1 when the modular difference from `ref` to `tick` is at least `thr`, else 0, and writes no register
(40 R105). -/
def Obligations.ExpiredComparesAtLeast : Prop :=
  (∀ (ref thr : Byte) (s : State), exec (.expired ref thr) s =
    .next { s with
      res := if thr.toNat ≤ (s.tick.toNat + 256 - ref.toNat) % 256 then 1#8 else 0#8
      wdt_kick := false }) ∧
  (∀ ref thr : Byte, (encode (.expired ref thr)).toNat = 0x40000 + ref.toNat * 256 + thr.toNat)

/-- The document's formula for `elapsed` with `MAX = 255` (40 R107, marked derived by the spec). -/
def Obligations.ElapsedMatchesDocumentFormula : Prop :=
  ∀ ref until_ : Byte, (elapsed ref until_).toNat =
    if until_.toNat < ref.toNat then (255 - ref.toNat) + until_.toNat + 1 else until_.toNat - ref.toNat

/-- After exactly `k` TICK operations, whatever else the run does but RST, ELAPSED from the earlier to the later value
of `tick` returns `k mod 256` (40 R104, marked derived by the spec). -/
def Obligations.ElapsedCountsTicks : Prop :=
  ∀ (is : List Instr) (s t u : State), (∀ level, Instr.rst level ∉ is) → execAll is s = .next t →
    exec (.elapsed s.tick t.tick) t = .next u → u.res.toNat = is.count .tick % 256

/-! ### Button debounce -/

/-- PIN: a level change loads `pin` and the full delay, whether or not the timer was armed; an unchanged level does
nothing (41 R121 to R124). -/
def Obligations.PinLoadsLevelAndArmsTimer : Prop :=
  (∀ (level : Level) (s : State), exec (.pin level) s = .next (
    if level = s.pin then { s with res := 0#8, wdt_kick := false }
    else { s with
      pin := level, settle_armed := true, settle_cnt := s.cfg.settleCount, res := 0#8, wdt_kick := false })) ∧
  (∀ level : Level, (encode (.pin level)).toNat = 0x50000 + level.bit.toNat)

/-- SCLK: nothing while the timer is not armed; else one less, and at 0 the expiry, which samples the pin once, counts
one transition when the level differs from the debounced one, and disarms the timer (41 R125, R126). The premise is the
clause of 10_state R52 that rules out states no run reaches (SequencerWf.armed). -/
def Obligations.SclkCountsDownAndExpires : Prop :=
  (∀ s : State, (s.settle_armed = true → 1 ≤ s.settle_cnt) → exec .sclk s = .next (
    if s.settle_armed = false then { s with res := 0#8, wdt_kick := false }
    else if 2 ≤ s.settle_cnt then { s with settle_cnt := s.settle_cnt - 1, res := 0#8, wdt_kick := false }
    else if s.pin = s.deb_level then
      { s with settle_cnt := 0, settle_armed := false, res := 0#8, wdt_kick := false }
    else if s.pin = .pressed then
      { s with
        settle_cnt := 0, settle_armed := false, deb_level := .pressed
        press_count := BitVec.ofNat 8 ((s.press_count.toNat + 1) % 256), res := 0#8, wdt_kick := false }
    else
      { s with
        settle_cnt := 0, settle_armed := false, deb_level := .released
        release_count := BitVec.ofNat 8 ((s.release_count.toNat + 1) % 256), res := 0#8, wdt_kick := false })) ∧
  encode .sclk = 0x60000#20

/-- "A toggle held stable past the settle window must produce exactly one" increment (41 R129 (b)), none when the pin is
back at the debounced level (R128, R130): a level change and then `SETTLE_COUNT` SCLK. -/
def Obligations.HeldLevelIsCountedOnce : Prop :=
  ∀ (level : Level) (s : State), 1 ≤ s.cfg.settleCount → level ≠ s.pin →
    ∃ t, execAll (.pin level :: List.replicate s.cfg.settleCount .sclk) s = .next t ∧
      t.pin = level ∧ t.settle_armed = false ∧ t.settle_cnt = 0 ∧ t.deb_level = level ∧
      t.press_count = (if level = .pressed ∧ s.deb_level = .released then s.press_count + 1#8 else s.press_count) ∧
      t.release_count =
        (if level = .released ∧ s.deb_level = .pressed then s.release_count + 1#8 else s.release_count) ∧
      t.tick = s.tick ∧ SameSequencer s t ∧ SameOutputs s t ∧ SameRun s t

/-- "A sequence of rapid raw-pin toggles within the settle window must produce at most one counter increment" (41 R129
(a)): a burst of level changes with fewer than `SETTLE_COUNT` SCLK after each moves no counter, and the `SETTLE_COUNT`
SCLK that follow disarm the timer and move at most one counter, by one. -/
def Obligations.BurstCountsAtMostOnce : Prop :=
  ∀ (ks : List Nat) (s : State), ks ≠ [] → (∀ k ∈ ks, k < s.cfg.settleCount) →
    ∃ t u, execAll (burst s.pin ks) s = .next t ∧
      t.press_count = s.press_count ∧ t.release_count = s.release_count ∧ t.deb_level = s.deb_level ∧
      t.settle_armed = true ∧
      execAll (List.replicate s.cfg.settleCount .sclk) t = .next u ∧ u.settle_armed = false ∧
      u.deb_level = t.pin ∧
      ((u.press_count = s.press_count ∧ u.release_count = s.release_count) ∨
       (u.press_count = s.press_count + 1#8 ∧ u.release_count = s.release_count) ∨
       (u.press_count = s.press_count ∧ u.release_count = s.release_count + 1#8))

/-- The counters "only increase by exactly one per real debounced transition", and their increments alternate (41 R127):
an operation other than RST moves a counter only as an SCLK that flips the debounced level to the level of the pin, and
then the one counter of that level by one. -/
def Obligations.CountersMoveWithDebouncedLevel : Prop :=
  ∀ (i : Instr) (s t : State), (∀ level, i ≠ .rst level) → exec i s = .next t →
    (t.deb_level = s.deb_level ∧ t.press_count = s.press_count ∧ t.release_count = s.release_count) ∨
    (i = .sclk ∧ s.settle_armed = true ∧ t.settle_armed = false ∧ s.pin ≠ s.deb_level ∧ t.deb_level = s.pin ∧
      ((s.pin = .pressed ∧ t.press_count = s.press_count + 1#8 ∧ t.release_count = s.release_count) ∨
       (s.pin = .released ∧ t.press_count = s.press_count ∧ t.release_count = s.release_count + 1#8)))

/-- 10_state R51 (marked derived by the spec): every step keeps the two counters as far apart as the debounced level
says. -/
def Obligations.StepKeepsCountersAgree : Prop :=
  ∀ s t : State, CountersAgree s → step s = .next t → CountersAgree t

/-! ### POLL -/

/-- Every POLL, in every phase, completes with `wdt_kick = 1` and `res = 0` and never changes the Tick or a register of
the debounce sub-block (42 R140, R142). -/
def Obligations.PollAlwaysKicksWatchdog : Prop :=
  ∀ (temp : Byte) (chg usbboot : Bool) (s : State), ∃ t, exec (.poll temp chg usbboot) s = .next t ∧
    t.wdt_kick = true ∧ t.res = 0#8 ∧ t.tick = s.tick ∧ SameDebounce s t ∧ SameRun s t

/-- The boot step (42 R143). The premise is the clause of 10_state R52 for the phase before boot (SequencerWf). -/
def Obligations.BootEntersLowOrOff : Prop :=
  ∀ (temp : Byte) (chg usbboot : Bool) (s : State), s.phase = .boot → s.next = .low →
    exec (.poll temp chg usbboot) s = .next (
      if s.pin = .pressed then
        { s with
          usb_flag := s.usb_flag || usbboot, pwr_hold := true, next := .med, state := .low
          pwm_en := true, pwm_level := s.cfg.lowDuty, drv_en := false, drv_mode := false
          phase := .waitDown, res := 0#8, wdt_kick := true }
      else
        { s with
          usb_flag := s.usb_flag || usbboot, pwr_hold := false, next := .low, state := .off
          pwm_en := false, pwm_level := 0#8, drv_en := false, drv_mode := false
          phase := .offRel, res := 0#8, wdt_kick := true })

/-- The idle routine runs exactly in the wait phases (42 R144): there it latches `chg` and renews a due `strobe_ref`, in
every other phase it does neither; `drv_en` is toggled there exactly when the strobe is due, active, and the state is
above LOW, which shows in `drv_en` unless the thermal check or a press's action drives the light anew (42 R146, R147). -/
def Obligations.IdleDutiesRunInWaitPhases : Prop :=
  ∀ (temp : Byte) (chg usbboot : Bool) (s : State), ∃ t, exec (.poll temp chg usbboot) s = .next t ∧
    (s.phase.waits → t.usb_flag = (s.usb_flag || chg) ∧
      t.strobe_ref = (if s.due s.strobe_ref s.cfg.strobeHalfTicks then s.tick else s.strobe_ref)) ∧
    (¬s.phase.waits → t.strobe_ref = s.strobe_ref ∧ ∀ temp' chg', exec (.poll temp' chg' usbboot) s = .next t) ∧
    (s.phase.waits → ¬s.overheats temp → s.phase ≠ .waitUp ∨ t.phase = .waitUp →
      t.drv_en = (if s.strobes then !s.drv_en else s.drv_en) ∧
      t.drv_mode = s.drv_mode ∧ t.pwm_en = s.pwm_en ∧ t.pwm_level = s.pwm_level)

/-- The wait for a press (42 R150), after the idle duties (R145 to R147), when the thermal check does not fire. -/
def Obligations.WaitDownRecordsButtonDown : Prop :=
  ∀ (temp : Byte) (chg usbboot : Bool) (s : State), s.phase = .waitDown → ¬s.overheats temp →
    exec (.poll temp chg usbboot) s = .next (
      if s.press_count = s.seen_press then s.idled chg
      else { s.idled chg with seen_press := s.press_count, down_tick := s.tick, phase := .waitUp })

/-- A SHORT press enters the next state, resets the modifier first when that is OFF, and leaves it otherwise (42 R152,
with the entry of each state, R160, and its light, R165, after the idle duties). -/
def Obligations.ShortPressEntersNextState : Prop :=
  ∀ (temp : Byte) (chg usbboot : Bool) (s : State), s.phase = .waitUp → ¬s.overheats temp →
    s.release_count ≠ s.seen_release →
    exec (.poll temp chg usbboot) s = .next (
      match s.next with
      | .low =>
        { s.idled chg with
          seen_release := s.release_count, state := .low, next := .med, pwr_hold := true
          pwm_en := true, pwm_level := s.cfg.lowDuty, drv_en := false, drv_mode := false, phase := .waitDown }
      | .med =>
        { s.idled chg with
          seen_release := s.release_count, state := .med, next := .high
          pwm_en := false, pwm_level := 0#8, drv_en := true, drv_mode := false, phase := .waitDown }
      | .high =>
        { s.idled chg with
          seen_release := s.release_count, state := .high, next := .off
          pwm_en := false, pwm_level := 0#8, drv_en := true, drv_mode := true, phase := .waitDown }
      | .off =>
        { s.idled chg with
          seen_release := s.release_count, state := .off, next := .low, modifier := .solid, pwr_hold := false
          pwm_en := false, pwm_level := 0#8, drv_en := false, drv_mode := false, phase := .offRel })

/-- A LONG press outside OFF toggles the modifier and leaves the power state; STROBE to SOLID applies the state's static
light again, SOLID to STROBE changes no output. A LONG press from OFF enters LOW at the threshold and leaves the modifier
(42 R153, after the idle duties). The premise `next = LOW` in OFF is the clause of 10_state R52 that R153 itself names
(SequencerWf.off_next). -/
def Obligations.LongPressTogglesModifierOrPowersOn : Prop :=
  ∀ (temp : Byte) (chg usbboot : Bool) (s : State), s.phase = .waitUp → ¬s.overheats temp →
    s.release_count = s.seen_release → s.due s.down_tick s.cfg.longTicks → (s.state = .off → s.next = .low) →
    exec (.poll temp chg usbboot) s = .next (
      match s.state, s.modifier with
      | .off, _ =>
        { s.idled chg with
          state := .low, next := .med, pwr_hold := true
          pwm_en := true, pwm_level := s.cfg.lowDuty, drv_en := false, drv_mode := false, phase := .waitRel }
      | _, .solid => { s.idled chg with modifier := .strobe, phase := .waitRel }
      | .low, .strobe =>
        { s.idled chg with
          modifier := .solid, phase := .waitRel
          pwm_en := true, pwm_level := s.cfg.lowDuty, drv_en := false, drv_mode := false }
      | .med, .strobe =>
        { s.idled chg with
          modifier := .solid, phase := .waitRel
          pwm_en := false, pwm_level := 0#8, drv_en := true, drv_mode := false }
      | .high, .strobe =>
        { s.idled chg with
          modifier := .solid, phase := .waitRel
          pwm_en := false, pwm_level := 0#8, drv_en := true, drv_mode := true })

/-- While the button is held below the threshold, a POLL does the idle duties and nothing else; once the release is
seen or the threshold reached, the press is classified, once, the release first (42 R151). -/
def Obligations.PressIsClassifiedReleaseFirst : Prop :=
  ∀ (temp : Byte) (chg usbboot : Bool) (s : State), s.phase = .waitUp → ¬s.overheats temp →
    (s.release_count = s.seen_release → ¬s.due s.down_tick s.cfg.longTicks →
      exec (.poll temp chg usbboot) s = .next (s.idled chg)) ∧
    ∃ t, exec (.poll temp chg usbboot) s = .next t ∧ t.seen_release = s.release_count ∧
      (t.phase = .waitDown ∨ t.phase = .offRel ↔ s.release_count ≠ s.seen_release) ∧
      (t.phase = .waitRel ↔ s.release_count = s.seen_release ∧ s.due s.down_tick s.cfg.longTicks)

/-- The wait for the release after a LONG press consumes it without action (42 R154, after the idle duties). -/
def Obligations.WaitRelConsumesRelease : Prop :=
  ∀ (temp : Byte) (chg usbboot : Bool) (s : State), s.phase = .waitRel → ¬s.overheats temp →
    exec (.poll temp chg usbboot) s = .next (
      if s.release_count = s.seen_release then s.idled chg
      else { s.idled chg with seen_release := s.release_count, phase := .waitDown })

/-- OFF entry waits for the raw pin, for ever if it must, and then records the tick (42 R171; 70 R257). -/
def Obligations.OffEntryWaitsForPinRelease : Prop :=
  ∀ (temp : Byte) (chg usbboot : Bool) (s : State), s.phase = .offRel →
    exec (.poll temp chg usbboot) s = .next (
      if s.pin = .released then { s with off_ref := s.tick, phase := .offSettle, res := 0#8, wdt_kick := true }
      else { s with res := 0#8, wdt_kick := true })

/-- OFF entry's settle delay, measured from the POLL that saw the release, then the USB latch (42 R172). -/
def Obligations.OffSettleLatchesUsbFlag : Prop :=
  ∀ (temp : Byte) (chg usbboot : Bool) (s : State), s.phase = .offSettle →
    exec (.poll temp chg usbboot) s = .next (
      if s.due s.off_ref s.cfg.offSettleTicks then
        { s with usb_flag := true, phase := .waitDown, res := 0#8, wdt_kick := true }
      else { s with res := 0#8, wdt_kick := true })

/-- The thermal check fires in a wait phase exactly when the state is MED or HIGH and the sample exceeds the threshold;
it forces the MED light, saves the phase and starts the warning sequence, and the wait test of that POLL is skipped (43
R191, R192; 42 R148; 60 R218). -/
def Obligations.OverheatStartsWarningSequence : Prop :=
  ∀ (temp : Byte) (chg usbboot : Bool) (s : State), s.phase.waits →
    (s.overheats temp → exec (.poll temp chg usbboot) s = .next
      { s.idled chg with
        pwm_en := false, pwm_level := 0#8, drv_en := true, drv_mode := false
        blink_left := 6#3, blink_ref := s.tick, ret_phase := s.phase, phase := .therm }) ∧
    (¬s.overheats temp → ∀ t, exec (.poll temp chg usbboot) s = .next t →
      t.phase ≠ .therm ∧ t.ret_phase = s.ret_phase ∧ t.blink_left = s.blink_left ∧ t.blink_ref = s.blink_ref)

/-- A POLL of the warning sequence: nothing before the interval is over, then a toggle while toggles are left, then the
return with LOW forced and next state OFF; the operands are ignored (43 R193, R194, R195; 60 R219). -/
def Obligations.WarningSequenceStep : Prop :=
  ∀ (temp : Byte) (chg usbboot : Bool) (s : State), s.phase = .therm →
    exec (.poll temp chg usbboot) s = .next (
      if ¬s.due s.blink_ref (s.cfg.ticksPerSecond / 2) then { s with res := 0#8, wdt_kick := true }
      else if s.blink_left = 0#3 then
        { s with
          pwm_en := true, pwm_level := s.cfg.lowDuty, drv_en := false, drv_mode := false
          state := .low, next := .off, phase := s.ret_phase, res := 0#8, wdt_kick := true }
      else
        { s with
          drv_en := !s.drv_en, blink_left := BitVec.ofNat 3 (s.blink_left.toNat - 1), blink_ref := s.tick
          res := 0#8, wdt_kick := true })

/-- Hardware performs a POLL in the reserved phase code 7 as `wdt_kick = 1` and no register change (42 R173). -/
def Obligations.ReservedPhaseOnlyKicks : Prop :=
  ∀ (temp : Byte) (chg usbboot : Bool) (s : State), s.phase = .reserved →
    exec (.poll temp chg usbboot) s = .next { s with res := 0#8, wdt_kick := true }

/-- The complete list of phase transitions (42 R141): the phase after an operation other than RST. -/
def Obligations.PhaseTransitionsAreThoseListed : Prop :=
  (∀ (i : Instr) (s t : State), exec i s = .next t → t.phase ≠ s.phase →
    (∃ temp chg usbboot, i = .poll temp chg usbboot) ∨ ∃ level, i = .rst level) ∧
  (∀ (temp : Byte) (chg usbboot : Bool) (s t : State), exec (.poll temp chg usbboot) s = .next t →
    t.phase =
      match s.phase with
      | .boot => if s.pin = .pressed then .waitDown else .offRel
      | .waitDown =>
        if s.overheats temp then .therm else if s.press_count ≠ s.seen_press then .waitUp else .waitDown
      | .waitUp =>
        if s.overheats temp then .therm
        else if s.release_count ≠ s.seen_release then (if s.next = .off then .offRel else .waitDown)
        else if s.due s.down_tick s.cfg.longTicks then .waitRel
        else .waitUp
      | .waitRel =>
        if s.overheats temp then .therm
        else if s.release_count ≠ s.seen_release then .waitDown
        else .waitRel
      | .offRel => if s.pin = .released then .offSettle else .offRel
      | .offSettle => if s.due s.off_ref s.cfg.offSettleTicks then .waitDown else .offSettle
      | .therm =>
        if s.due s.blink_ref (s.cfg.ticksPerSecond / 2) ∧ s.blink_left = 0#3 then s.ret_phase else .therm
      | .reserved => .reserved)

/-- Which operands of POLL are looked at: in P_BOOT only `usbboot`, in the wait phases only `temp` and `chg`, in the OFF
entry phases and in P_THERM none (42 R140, R143; 43 R193; 95 F5, F27, F30, H12). -/
def Obligations.PollIgnoresOtherOperands : Prop :=
  ∀ (temp temp' : Byte) (chg chg' usbboot usbboot' : Bool) (s : State),
    (s.phase = .boot → exec (.poll temp chg usbboot) s = exec (.poll temp' chg' usbboot) s) ∧
    (s.phase ≠ .boot → exec (.poll temp chg usbboot) s = exec (.poll temp chg usbboot') s) ∧
    (s.phase ≠ .boot → ¬s.phase.waits →
      exec (.poll temp chg usbboot) s = exec (.poll temp' chg' usbboot') s)

/-! ### Reset and output -/

/-- RST writes every register and depends on no earlier state (70 R240, 10_state R53); only the parameters of the run and
the words to come stay, which are no registers. -/
def Obligations.RstLoadsResetValues : Prop :=
  (∀ (level : Level) (s : State), exec (.rst level) s = .next
    { tick := 0#8, pin := level, settle_armed := false, settle_cnt := 0, deb_level := .released
      press_count := 0#8, release_count := 0#8, state := .off, next := .low, modifier := .solid
      phase := .boot, ret_phase := .waitDown, seen_press := 0#8, seen_release := 0#8, down_tick := 0#8
      off_ref := 0#8, strobe_ref := 0#8, usb_flag := false, blink_left := 0#3, blink_ref := 0#8
      pwr_hold := false, drv_en := false, drv_mode := false, pwm_en := false, pwm_level := 0#8
      wdt_kick := false, res := 0#8, cfg := s.cfg, opw_queue := s.opw_queue }) ∧
  (∀ level : Level, (encode (.rst level)).toNat = 0xF0000 + level.bit.toNat)

/-- The state after reset is the state an `RST 0` leaves. That the operand is RELEASED, that the parameters are TC and
that nothing is presented are the model's choices (log 1, 2, 4). -/
def Obligations.StateResetIsAfterRstReleased : Prop :=
  (∀ s : State, exec (.rst .released) s = .next { State.reset with cfg := s.cfg, opw_queue := s.opw_queue }) ∧
  State.reset.cfg = Params.tc ∧ State.reset.opw_queue = []

/-- The reset state meets the invariants, whatever the parameters are. -/
def Obligations.ResetMeetsInvariants : Prop :=
  ∀ (level : Level) (p : Params),
    let s := { State.reset with pin := level, cfg := p }
    CountersAgree s ∧ SequencerWf s ∧ LightWf s

/-- The output ports show the registers' current values with the codes of 00_scope R12 (30_encoding R95). -/
def Obligations.PortsShowRegisters : Prop :=
  (∀ s : State, s.ports =
    { tick_o := s.tick, press_count_o := s.press_count, release_count_o := s.release_count
      state_o := match s.state with | .off => 0#2 | .low => 1#2 | .med => 2#2 | .high => 3#2
      next_o := match s.next with | .off => 0#2 | .low => 1#2 | .med => 2#2 | .high => 3#2
      modifier_o := match s.modifier with | .solid => 0#1 | .strobe => 1#1
      phase_o := match s.phase with
        | .boot => 0#3 | .waitDown => 1#3 | .waitUp => 2#3 | .waitRel => 3#3
        | .offRel => 4#3 | .offSettle => 5#3 | .therm => 6#3 | .reserved => 7#3
      usb_flag_o := s.usb_flag, pwr_hold := s.pwr_hold, drv_en := s.drv_en, drv_mode := s.drv_mode
      pwm_en := s.pwm_en, pwm_level := s.pwm_level, wdt_kick := s.wdt_kick, res := s.res })

/-! ### Whole-machine rules -/

/-- `wdt_kick` is 1 exactly in a step that performs POLL (10_state R46); `res` is set by NOW, ELAPSED and EXPIRED, and is
0 in a step that performs any other operation (R47). -/
def Obligations.StepOutputsKickAndResult : Prop :=
  ∀ (i : Instr) (s t : State), exec i s = .next t →
    (t.wdt_kick = true ↔ ∃ temp chg usbboot, i = .poll temp chg usbboot) ∧
    (t.res = match i with
      | .now => s.tick
      | .elapsed ref until_ => until_ - ref
      | .expired ref thr => if s.due ref thr.toNat then 1#8 else 0#8
      | _ => 0#8)

/-- Every shared register is a single-writer cell (20 R65). -/
def Obligations.RegistersHaveOneWriter : Prop :=
  ∀ (i : Instr) (s t : State), exec i s = .next t →
    match i with
    | .nop | .now | .elapsed _ _ | .expired _ _ =>
      t.tick = s.tick ∧ SameDebounce s t ∧ SameSequencer s t ∧ SameOutputs s t
    | .tick => SameDebounce s t ∧ SameSequencer s t ∧ SameOutputs s t
    | .pin _ =>
      t.tick = s.tick ∧ t.deb_level = s.deb_level ∧ t.press_count = s.press_count ∧
        t.release_count = s.release_count ∧ SameSequencer s t ∧ SameOutputs s t
    | .sclk =>
      t.tick = s.tick ∧ t.pin = s.pin ∧ SameSequencer s t ∧ SameOutputs s t ∧
        (t.settle_armed = s.settle_armed →
          t.deb_level = s.deb_level ∧ t.press_count = s.press_count ∧ t.release_count = s.release_count)
    | .poll _ _ _ => t.tick = s.tick ∧ SameDebounce s t
    | .rst level => t = { State.reset with pin := level, cfg := s.cfg, opw_queue := s.opw_queue }

/-- The USB flag is a one-way latch (10_state R35): three rules set it, none but RST clears it, and no rule reads it to
decide anything. -/
def Obligations.UsbFlagIsOneWayLatch : Prop :=
  (∀ (i : Instr) (s t : State), exec i s = .next t → (∀ level, i ≠ .rst level) →
    (t.usb_flag = true ↔ s.usb_flag = true ∨ ∃ temp chg usbboot, i = .poll temp chg usbboot ∧
      ((s.phase = .boot ∧ usbboot = true) ∨ (s.phase.waits ∧ chg = true) ∨
       (s.phase = .offSettle ∧ s.due s.off_ref s.cfg.offSettleTicks)))) ∧
  (∀ (level : Level) (s t : State), exec (.rst level) s = .next t → t.usb_flag = false) ∧
  (∀ (i : Instr) (f : Bool) (s t : State), exec i s = .next t →
    ∃ g, exec i { s with usb_flag := f } = .next { t with usb_flag := g })

/-- `pwr_hold` is set only by entering LOW and cleared only by entering OFF and by RST (10_state R39). -/
def Obligations.SupplyLineFollowsLowAndOffEntry : Prop :=
  ∀ (i : Instr) (s t : State), exec i s = .next t →
    (s.pwr_hold = false → t.pwr_hold = true → t.state = .low ∧ t.next = .med) ∧
    (s.pwr_hold = true → t.pwr_hold = false → t.state = .off ∧ t.next = .low)

/-- The power states advance in one direction only (42 R161): a power state changes only to its successor, by the
thermal override to LOW, or, after an override, from LOW to OFF; and by RST. The premise is the invariant
of StepKeepsSequencerWf. -/
def Obligations.PowerStateAdvancesOneWay : Prop :=
  ∀ (i : Instr) (s t : State), SequencerWf s → exec i s = .next t → (∀ level, i ≠ .rst level) →
    t.state ≠ s.state →
    (s.state = .off ∧ t.state = .low) ∨ (s.state = .low ∧ t.state = .med) ∨
    (s.state = .med ∧ t.state = .high) ∨ (s.state = .high ∧ t.state = .off) ∨
    (s.phase = .therm ∧ t.state = .low ∧ t.next = .off) ∨
    (s.state = .low ∧ s.next = .off ∧ t.state = .off)

/-- What holds of the document's "exactly one of {power state, modifier}" (42 R155, marked derived by the spec, conflict
C3): the modifier changes, but by RST, only in a POLL that classifies a press, either a SHORT press that enters OFF under
STROBE, or a LONG press outside OFF, which leaves the power state. -/
def Obligations.PressChangesStateOrModifier : Prop :=
  ∀ (i : Instr) (s t : State), exec i s = .next t → (∀ level, i ≠ .rst level) → t.modifier ≠ s.modifier →
    (∃ temp chg usbboot, i = .poll temp chg usbboot) ∧ s.phase = .waitUp ∧
    ((s.release_count ≠ s.seen_release ∧ s.next = .off ∧ s.modifier = .strobe ∧ t.modifier = .solid ∧
        t.state = .off ∧ t.phase = .offRel) ∨
     (s.release_count = s.seen_release ∧ s.due s.down_tick s.cfg.longTicks ∧ s.state ≠ .off ∧ t.state = s.state ∧
        t.phase = .waitRel))

/-- 10_state R52 (marked derived by the spec), with the clauses its induction needs: every step keeps it. -/
def Obligations.StepKeepsSequencerWf : Prop :=
  ∀ s t : State, SequencerWf s → step s = .next t → SequencerWf t

/-- The light outputs are the static values of the state, but for the strobe and the warning sequence (42 R165, R166, 43
R194; R166 is marked derived by the spec): every step keeps it, and in OFF the device is off (70 R246). -/
def Obligations.StepKeepsLightWf : Prop :=
  ∀ s t : State, SequencerWf s → LightWf s → step s = .next t →
    LightWf t ∧ (t.state = .off → t.deviceOff)

/-- "Every rule uses `tick` only through differences, and only NOW shows it" (10_state R53): adding a constant to the
Tick, to every register that holds a tick value and to the tick operands changes nothing but that addition, and NOW's
result. -/
def Obligations.TickIsUsedOnlyThroughDifferences : Prop :=
  ∀ (d : Byte) (i : Instr) (s t : State), (∀ level, i ≠ .rst level) → exec i s = .next t →
    exec (shiftOperands d i) (s.shiftTicks d) = .next
      (if i = .now then { t.shiftTicks d with res := t.res + d } else t.shiftTicks d)

/-- TICK commutes with PIN and with SCLK (60 R216). -/
def Obligations.TickCommutesWithDebounce : Prop :=
  (∀ (level : Level) (s : State), execAll [.tick, .pin level] s = execAll [.pin level, .tick] s) ∧
  (∀ s : State, execAll [.tick, .sclk] s = execAll [.sclk, .tick] s)

/-- The arbiter's order (60 R216): RST discards the others; else TICK, PIN, SCLK, POLL, a query, each for its event. -/
def Obligations.ArbiterOrdersEvents : Prop :=
  (∀ (e : Events) (level : Level), e.reset = some level → arbiter e = [.rst level]) ∧
  (∀ (level : Level) (x : Spin) (q : Query),
    arbiter ⟨none, true, some level, true, some x, some q⟩ =
      [.tick, .pin level, .sclk, .poll x.temp x.chg x.usbboot, q.instr]) ∧
  (∀ e : Events, e.reset = none →
    (arbiter e).Pairwise (fun i j => arbiterRank i < arbiterRank j) ∧
    (Instr.tick ∈ arbiter e ↔ e.overflow = true) ∧
    (∀ level, Instr.pin level ∈ arbiter e ↔ e.pinChange = some level) ∧
    (Instr.sclk ∈ arbiter e ↔ e.settlePulse = true) ∧
    (∀ temp chg usbboot, Instr.poll temp chg usbboot ∈ arbiter e ↔ e.spin = some ⟨temp, chg, usbboot⟩) ∧
    (∀ q : Query, q.instr ∈ arbiter e ↔ e.query = some q) ∧
    (∀ level, Instr.rst level ∉ arbiter e) ∧ Instr.nop ∉ arbiter e)

/-- The whole warning sequence (43 R197, marked derived by the spec): from the trigger, with one POLL per tick and any
operands, after `n` ticks short of 7 intervals exactly `n / HALF_SEC_TICKS` toggles have been made and the state is still
the one it was; at 7 intervals the state is LOW with next state OFF and the saved phase is back. -/
def Obligations.WarningSequenceTakesSevenIntervals : Prop :=
  ∀ (xs : List Spin) (s : State), 1 ≤ s.cfg.ticksPerSecond / 2 → s.cfg.ticksPerSecond / 2 ≤ 127 →
    s.phase = .therm → s.blink_left = 6#3 → s.blink_ref = s.tick → s.drv_en = true →
    (xs.length < 7 * (s.cfg.ticksPerSecond / 2) →
      ∃ t, execAll (tickPolls xs) s = .next t ∧ t.phase = .therm ∧ t.state = s.state ∧
        t.blink_left.toNat + xs.length / (s.cfg.ticksPerSecond / 2) = 6 ∧
        t.drv_en = decide (xs.length / (s.cfg.ticksPerSecond / 2) % 2 = 0)) ∧
    (xs.length = 7 * (s.cfg.ticksPerSecond / 2) →
      ∃ t, execAll (tickPolls xs) s = .next t ∧ t.phase = s.ret_phase ∧ t.state = .low ∧ t.next = .off ∧
        t.blink_left = 0#3 ∧ t.pwm_en = true ∧ t.pwm_level = s.cfg.lowDuty ∧ t.drv_en = false ∧
        t.drv_mode = false ∧ t.modifier = s.modifier ∧ t.pwr_hold = s.pwr_hold ∧ SameDebounce s t)
end

