-- ==== Sys2Proof/Laws/Decode.lean ====
section
/-!
SUPPORT. The fields of a word (30_encoding R81) and the bits of an operand.
-/
namespace Sys2Proof

@[simp] theorem opField_mkOpw (op : BitVec 4) (a b : Byte) : opField (mkOpw op a b) = op := by
  apply BitVec.eq_of_getLsbD_eq
  intro i hi
  simp only [opField, mkOpw, BitVec.getLsbD_extractLsb', BitVec.getLsbD_append]
  simp [show ¬(16 + i < 8) by omega, show 16 + i - 8 = 8 + i by omega, show ¬(8 + i < 8) by omega, hi]

@[simp] theorem aField_mkOpw (op : BitVec 4) (a b : Byte) : aField (mkOpw op a b) = a := by
  apply BitVec.eq_of_getLsbD_eq
  intro i hi
  simp only [aField, mkOpw, BitVec.getLsbD_extractLsb', BitVec.getLsbD_append]
  simp [show ¬(8 + i < 8) by omega, show 8 + i - 8 = i by omega, hi]

@[simp] theorem bField_mkOpw (op : BitVec 4) (a b : Byte) : bField (mkOpw op a b) = b := by
  apply BitVec.eq_of_getLsbD_eq
  intro i hi
  simp only [bField, mkOpw, BitVec.getLsbD_extractLsb', BitVec.getLsbD_append]
  simp [hi]

/-- Every word is made of its fields. -/
theorem mkOpw_fields (w : OpWord) : mkOpw (opField w) (aField w) (bField w) = w := by
  apply BitVec.eq_of_getLsbD_eq
  intro i hi
  simp only [opField, aField, bField, mkOpw, BitVec.getLsbD_extractLsb', BitVec.getLsbD_append]
  by_cases h1 : i < 8
  · simp [h1]
  · by_cases h2 : i - 8 < 8
    · simp [h1, h2, show 8 + (i - 8) = i by omega]
    · simp [h1, h2, show 16 + (i - 8 - 8) = i by omega, show i - 8 - 8 < 4 by omega]

/-- The word as a number: `op * 65536 + a * 256 + b` (R81). -/
theorem mkOpw_toNat (op : BitVec 4) (a b : Byte) :
    (mkOpw op a b).toNat = op.toNat * 65536 + a.toNat * 256 + b.toNat := by
  have ha := a.isLt
  have hb := b.isLt
  rw [mkOpw, BitVec.toNat_append, BitVec.toNat_append, ← Nat.shiftLeft_add_eq_or_of_lt hb,
    ← Nat.shiftLeft_add_eq_or_of_lt ha, Nat.shiftLeft_eq, Nat.shiftLeft_eq]
  omega

/-- Masking a word masks its fields (R83). -/
theorem mkOpw_and (op p : BitVec 4) (a b c d : Byte) :
    mkOpw op a b &&& mkOpw p c d = mkOpw (op &&& p) (a &&& c) (b &&& d) := by
  rw [mkOpw, mkOpw, BitVec.and_append, BitVec.and_append, mkOpw]

/-- Two words are equal exactly when their fields are. -/
theorem mkOpw_inj {op p : BitVec 4} {a b c d : Byte} : mkOpw op a b = mkOpw p c d ↔ op = p ∧ a = c ∧ b = d := by
  constructor
  · intro h
    exact ⟨by simpa using congrArg opField h, by simpa using congrArg aField h, by simpa using congrArg bField h⟩
  · rintro ⟨rfl, rfl, rfl⟩
    rfl

theorem decode_mkOpw (op : BitVec 4) (a b : Byte) : decode (mkOpw op a b) = decodeFields op a b := by
  simp [decode]

/-- The reserved bits of PIN and RST are 0 exactly when `b` is below 2 (R85). -/
theorem bAboveBit0Zero_eq (b : Byte) : bAboveBit0Zero b = decide (b.toNat < 2) := by
  revert b
  decide

/-- The reserved bits of POLL are 0 exactly when `b` is below 4 (R85). -/
theorem bAboveBit1Zero_eq (b : Byte) : bAboveBit1Zero b = decide (b.toNat < 4) := by
  revert b
  decide

@[simp] theorem Level_ofBit_bit (l : Level) : Level.ofBit l.bit = l := by cases l <;> rfl

@[simp] theorem Level_bit_ofBit (v : Bool) : (Level.ofBit v).bit = v := by cases v <;> rfl

end Sys2Proof
end

