-- ==== Sys2Proof/Laws/State.lean ====
section
/-!
SUPPORT. One lemma per field per update of State, for every operation of Ops.lean, Thermal.lean and Reset.lean that writes a
fixed set of fields.
-/
namespace Sys2Proof.Machine

/-! ### The step outputs of an operation (10_state R46, R47). -/

@[simp] theorem withOutputs_tick (kick : Bool) (res : Byte) (s : State) : (s.withOutputs kick res).tick = s.tick := rfl
@[simp] theorem withOutputs_pin (kick : Bool) (res : Byte) (s : State) : (s.withOutputs kick res).pin = s.pin := rfl
@[simp] theorem withOutputs_settle_armed (kick : Bool) (res : Byte) (s : State) : (s.withOutputs kick res).settle_armed = s.settle_armed := rfl
@[simp] theorem withOutputs_settle_cnt (kick : Bool) (res : Byte) (s : State) : (s.withOutputs kick res).settle_cnt = s.settle_cnt := rfl
@[simp] theorem withOutputs_deb_level (kick : Bool) (res : Byte) (s : State) : (s.withOutputs kick res).deb_level = s.deb_level := rfl
@[simp] theorem withOutputs_press_count (kick : Bool) (res : Byte) (s : State) : (s.withOutputs kick res).press_count = s.press_count := rfl
@[simp] theorem withOutputs_release_count (kick : Bool) (res : Byte) (s : State) : (s.withOutputs kick res).release_count = s.release_count := rfl
@[simp] theorem withOutputs_state (kick : Bool) (res : Byte) (s : State) : (s.withOutputs kick res).state = s.state := rfl
@[simp] theorem withOutputs_next (kick : Bool) (res : Byte) (s : State) : (s.withOutputs kick res).next = s.next := rfl
@[simp] theorem withOutputs_modifier (kick : Bool) (res : Byte) (s : State) : (s.withOutputs kick res).modifier = s.modifier := rfl
@[simp] theorem withOutputs_phase (kick : Bool) (res : Byte) (s : State) : (s.withOutputs kick res).phase = s.phase := rfl
@[simp] theorem withOutputs_ret_phase (kick : Bool) (res : Byte) (s : State) : (s.withOutputs kick res).ret_phase = s.ret_phase := rfl
@[simp] theorem withOutputs_seen_press (kick : Bool) (res : Byte) (s : State) : (s.withOutputs kick res).seen_press = s.seen_press := rfl
@[simp] theorem withOutputs_seen_release (kick : Bool) (res : Byte) (s : State) : (s.withOutputs kick res).seen_release = s.seen_release := rfl
@[simp] theorem withOutputs_down_tick (kick : Bool) (res : Byte) (s : State) : (s.withOutputs kick res).down_tick = s.down_tick := rfl
@[simp] theorem withOutputs_off_ref (kick : Bool) (res : Byte) (s : State) : (s.withOutputs kick res).off_ref = s.off_ref := rfl
@[simp] theorem withOutputs_strobe_ref (kick : Bool) (res : Byte) (s : State) : (s.withOutputs kick res).strobe_ref = s.strobe_ref := rfl
@[simp] theorem withOutputs_usb_flag (kick : Bool) (res : Byte) (s : State) : (s.withOutputs kick res).usb_flag = s.usb_flag := rfl
@[simp] theorem withOutputs_blink_left (kick : Bool) (res : Byte) (s : State) : (s.withOutputs kick res).blink_left = s.blink_left := rfl
@[simp] theorem withOutputs_blink_ref (kick : Bool) (res : Byte) (s : State) : (s.withOutputs kick res).blink_ref = s.blink_ref := rfl
@[simp] theorem withOutputs_pwr_hold (kick : Bool) (res : Byte) (s : State) : (s.withOutputs kick res).pwr_hold = s.pwr_hold := rfl
@[simp] theorem withOutputs_drv_en (kick : Bool) (res : Byte) (s : State) : (s.withOutputs kick res).drv_en = s.drv_en := rfl
@[simp] theorem withOutputs_drv_mode (kick : Bool) (res : Byte) (s : State) : (s.withOutputs kick res).drv_mode = s.drv_mode := rfl
@[simp] theorem withOutputs_pwm_en (kick : Bool) (res : Byte) (s : State) : (s.withOutputs kick res).pwm_en = s.pwm_en := rfl
@[simp] theorem withOutputs_pwm_level (kick : Bool) (res : Byte) (s : State) : (s.withOutputs kick res).pwm_level = s.pwm_level := rfl
@[simp] theorem withOutputs_wdt_kick (kick : Bool) (res : Byte) (s : State) : (s.withOutputs kick res).wdt_kick = kick := rfl
@[simp] theorem withOutputs_res (kick : Bool) (res : Byte) (s : State) : (s.withOutputs kick res).res = res := rfl
@[simp] theorem withOutputs_cfg (kick : Bool) (res : Byte) (s : State) : (s.withOutputs kick res).cfg = s.cfg := rfl
@[simp] theorem withOutputs_opw_queue (kick : Bool) (res : Byte) (s : State) : (s.withOutputs kick res).opw_queue = s.opw_queue := rfl

/-! ### Taking the word off the port (20 R73). -/

@[simp] theorem takeWord_tick (s : State) : (s.takeWord).tick = s.tick := rfl
@[simp] theorem takeWord_pin (s : State) : (s.takeWord).pin = s.pin := rfl
@[simp] theorem takeWord_settle_armed (s : State) : (s.takeWord).settle_armed = s.settle_armed := rfl
@[simp] theorem takeWord_settle_cnt (s : State) : (s.takeWord).settle_cnt = s.settle_cnt := rfl
@[simp] theorem takeWord_deb_level (s : State) : (s.takeWord).deb_level = s.deb_level := rfl
@[simp] theorem takeWord_press_count (s : State) : (s.takeWord).press_count = s.press_count := rfl
@[simp] theorem takeWord_release_count (s : State) : (s.takeWord).release_count = s.release_count := rfl
@[simp] theorem takeWord_state (s : State) : (s.takeWord).state = s.state := rfl
@[simp] theorem takeWord_next (s : State) : (s.takeWord).next = s.next := rfl
@[simp] theorem takeWord_modifier (s : State) : (s.takeWord).modifier = s.modifier := rfl
@[simp] theorem takeWord_phase (s : State) : (s.takeWord).phase = s.phase := rfl
@[simp] theorem takeWord_ret_phase (s : State) : (s.takeWord).ret_phase = s.ret_phase := rfl
@[simp] theorem takeWord_seen_press (s : State) : (s.takeWord).seen_press = s.seen_press := rfl
@[simp] theorem takeWord_seen_release (s : State) : (s.takeWord).seen_release = s.seen_release := rfl
@[simp] theorem takeWord_down_tick (s : State) : (s.takeWord).down_tick = s.down_tick := rfl
@[simp] theorem takeWord_off_ref (s : State) : (s.takeWord).off_ref = s.off_ref := rfl
@[simp] theorem takeWord_strobe_ref (s : State) : (s.takeWord).strobe_ref = s.strobe_ref := rfl
@[simp] theorem takeWord_usb_flag (s : State) : (s.takeWord).usb_flag = s.usb_flag := rfl
@[simp] theorem takeWord_blink_left (s : State) : (s.takeWord).blink_left = s.blink_left := rfl
@[simp] theorem takeWord_blink_ref (s : State) : (s.takeWord).blink_ref = s.blink_ref := rfl
@[simp] theorem takeWord_pwr_hold (s : State) : (s.takeWord).pwr_hold = s.pwr_hold := rfl
@[simp] theorem takeWord_drv_en (s : State) : (s.takeWord).drv_en = s.drv_en := rfl
@[simp] theorem takeWord_drv_mode (s : State) : (s.takeWord).drv_mode = s.drv_mode := rfl
@[simp] theorem takeWord_pwm_en (s : State) : (s.takeWord).pwm_en = s.pwm_en := rfl
@[simp] theorem takeWord_pwm_level (s : State) : (s.takeWord).pwm_level = s.pwm_level := rfl
@[simp] theorem takeWord_wdt_kick (s : State) : (s.takeWord).wdt_kick = s.wdt_kick := rfl
@[simp] theorem takeWord_res (s : State) : (s.takeWord).res = s.res := rfl
@[simp] theorem takeWord_cfg (s : State) : (s.takeWord).cfg = s.cfg := rfl
@[simp] theorem takeWord_opw_queue (s : State) : (s.takeWord).opw_queue = s.opw_queue.tail := rfl

/-! ### `Arm()` (41 R123). -/

@[simp] theorem arm_tick (s : State) : (arm s).tick = s.tick := rfl
@[simp] theorem arm_pin (s : State) : (arm s).pin = s.pin := rfl
@[simp] theorem arm_settle_armed (s : State) : (arm s).settle_armed = true := rfl
@[simp] theorem arm_settle_cnt (s : State) : (arm s).settle_cnt = s.cfg.settleCount := rfl
@[simp] theorem arm_deb_level (s : State) : (arm s).deb_level = s.deb_level := rfl
@[simp] theorem arm_press_count (s : State) : (arm s).press_count = s.press_count := rfl
@[simp] theorem arm_release_count (s : State) : (arm s).release_count = s.release_count := rfl
@[simp] theorem arm_state (s : State) : (arm s).state = s.state := rfl
@[simp] theorem arm_next (s : State) : (arm s).next = s.next := rfl
@[simp] theorem arm_modifier (s : State) : (arm s).modifier = s.modifier := rfl
@[simp] theorem arm_phase (s : State) : (arm s).phase = s.phase := rfl
@[simp] theorem arm_ret_phase (s : State) : (arm s).ret_phase = s.ret_phase := rfl
@[simp] theorem arm_seen_press (s : State) : (arm s).seen_press = s.seen_press := rfl
@[simp] theorem arm_seen_release (s : State) : (arm s).seen_release = s.seen_release := rfl
@[simp] theorem arm_down_tick (s : State) : (arm s).down_tick = s.down_tick := rfl
@[simp] theorem arm_off_ref (s : State) : (arm s).off_ref = s.off_ref := rfl
@[simp] theorem arm_strobe_ref (s : State) : (arm s).strobe_ref = s.strobe_ref := rfl
@[simp] theorem arm_usb_flag (s : State) : (arm s).usb_flag = s.usb_flag := rfl
@[simp] theorem arm_blink_left (s : State) : (arm s).blink_left = s.blink_left := rfl
@[simp] theorem arm_blink_ref (s : State) : (arm s).blink_ref = s.blink_ref := rfl
@[simp] theorem arm_pwr_hold (s : State) : (arm s).pwr_hold = s.pwr_hold := rfl
@[simp] theorem arm_drv_en (s : State) : (arm s).drv_en = s.drv_en := rfl
@[simp] theorem arm_drv_mode (s : State) : (arm s).drv_mode = s.drv_mode := rfl
@[simp] theorem arm_pwm_en (s : State) : (arm s).pwm_en = s.pwm_en := rfl
@[simp] theorem arm_pwm_level (s : State) : (arm s).pwm_level = s.pwm_level := rfl
@[simp] theorem arm_wdt_kick (s : State) : (arm s).wdt_kick = s.wdt_kick := rfl
@[simp] theorem arm_res (s : State) : (arm s).res = s.res := rfl
@[simp] theorem arm_cfg (s : State) : (arm s).cfg = s.cfg := rfl
@[simp] theorem arm_opw_queue (s : State) : (arm s).opw_queue = s.opw_queue := rfl

/-! ### `ApplyLight` (42 R165). -/

@[simp] theorem applyLight_tick (p : PowerState) (s : State) : (applyLight p s).tick = s.tick := rfl
@[simp] theorem applyLight_pin (p : PowerState) (s : State) : (applyLight p s).pin = s.pin := rfl
@[simp] theorem applyLight_settle_armed (p : PowerState) (s : State) : (applyLight p s).settle_armed = s.settle_armed := rfl
@[simp] theorem applyLight_settle_cnt (p : PowerState) (s : State) : (applyLight p s).settle_cnt = s.settle_cnt := rfl
@[simp] theorem applyLight_deb_level (p : PowerState) (s : State) : (applyLight p s).deb_level = s.deb_level := rfl
@[simp] theorem applyLight_press_count (p : PowerState) (s : State) : (applyLight p s).press_count = s.press_count := rfl
@[simp] theorem applyLight_release_count (p : PowerState) (s : State) : (applyLight p s).release_count = s.release_count := rfl
@[simp] theorem applyLight_state (p : PowerState) (s : State) : (applyLight p s).state = s.state := rfl
@[simp] theorem applyLight_next (p : PowerState) (s : State) : (applyLight p s).next = s.next := rfl
@[simp] theorem applyLight_modifier (p : PowerState) (s : State) : (applyLight p s).modifier = s.modifier := rfl
@[simp] theorem applyLight_phase (p : PowerState) (s : State) : (applyLight p s).phase = s.phase := rfl
@[simp] theorem applyLight_ret_phase (p : PowerState) (s : State) : (applyLight p s).ret_phase = s.ret_phase := rfl
@[simp] theorem applyLight_seen_press (p : PowerState) (s : State) : (applyLight p s).seen_press = s.seen_press := rfl
@[simp] theorem applyLight_seen_release (p : PowerState) (s : State) : (applyLight p s).seen_release = s.seen_release := rfl
@[simp] theorem applyLight_down_tick (p : PowerState) (s : State) : (applyLight p s).down_tick = s.down_tick := rfl
@[simp] theorem applyLight_off_ref (p : PowerState) (s : State) : (applyLight p s).off_ref = s.off_ref := rfl
@[simp] theorem applyLight_strobe_ref (p : PowerState) (s : State) : (applyLight p s).strobe_ref = s.strobe_ref := rfl
@[simp] theorem applyLight_usb_flag (p : PowerState) (s : State) : (applyLight p s).usb_flag = s.usb_flag := rfl
@[simp] theorem applyLight_blink_left (p : PowerState) (s : State) : (applyLight p s).blink_left = s.blink_left := rfl
@[simp] theorem applyLight_blink_ref (p : PowerState) (s : State) : (applyLight p s).blink_ref = s.blink_ref := rfl
@[simp] theorem applyLight_pwr_hold (p : PowerState) (s : State) : (applyLight p s).pwr_hold = s.pwr_hold := rfl
@[simp] theorem applyLight_drv_en (p : PowerState) (s : State) : (applyLight p s).drv_en = (lightOf s.cfg p).drv_en := rfl
@[simp] theorem applyLight_drv_mode (p : PowerState) (s : State) : (applyLight p s).drv_mode = (lightOf s.cfg p).drv_mode := rfl
@[simp] theorem applyLight_pwm_en (p : PowerState) (s : State) : (applyLight p s).pwm_en = (lightOf s.cfg p).pwm_en := rfl
@[simp] theorem applyLight_pwm_level (p : PowerState) (s : State) : (applyLight p s).pwm_level = (lightOf s.cfg p).pwm_level := rfl
@[simp] theorem applyLight_wdt_kick (p : PowerState) (s : State) : (applyLight p s).wdt_kick = s.wdt_kick := rfl
@[simp] theorem applyLight_res (p : PowerState) (s : State) : (applyLight p s).res = s.res := rfl
@[simp] theorem applyLight_cfg (p : PowerState) (s : State) : (applyLight p s).cfg = s.cfg := rfl
@[simp] theorem applyLight_opw_queue (p : PowerState) (s : State) : (applyLight p s).opw_queue = s.opw_queue := rfl

/-! ### `Enter` (42 R160). -/

@[simp] theorem enter_tick (p : PowerState) (s : State) : (enter p s).tick = s.tick := rfl
@[simp] theorem enter_pin (p : PowerState) (s : State) : (enter p s).pin = s.pin := rfl
@[simp] theorem enter_settle_armed (p : PowerState) (s : State) : (enter p s).settle_armed = s.settle_armed := rfl
@[simp] theorem enter_settle_cnt (p : PowerState) (s : State) : (enter p s).settle_cnt = s.settle_cnt := rfl
@[simp] theorem enter_deb_level (p : PowerState) (s : State) : (enter p s).deb_level = s.deb_level := rfl
@[simp] theorem enter_press_count (p : PowerState) (s : State) : (enter p s).press_count = s.press_count := rfl
@[simp] theorem enter_release_count (p : PowerState) (s : State) : (enter p s).release_count = s.release_count := rfl
@[simp] theorem enter_state (p : PowerState) (s : State) : (enter p s).state = p := rfl
@[simp] theorem enter_next (p : PowerState) (s : State) : (enter p s).next = p.successor := rfl
@[simp] theorem enter_modifier (p : PowerState) (s : State) : (enter p s).modifier = s.modifier := rfl
@[simp] theorem enter_phase (p : PowerState) (s : State) : (enter p s).phase = s.phase := rfl
@[simp] theorem enter_ret_phase (p : PowerState) (s : State) : (enter p s).ret_phase = s.ret_phase := rfl
@[simp] theorem enter_seen_press (p : PowerState) (s : State) : (enter p s).seen_press = s.seen_press := rfl
@[simp] theorem enter_seen_release (p : PowerState) (s : State) : (enter p s).seen_release = s.seen_release := rfl
@[simp] theorem enter_down_tick (p : PowerState) (s : State) : (enter p s).down_tick = s.down_tick := rfl
@[simp] theorem enter_off_ref (p : PowerState) (s : State) : (enter p s).off_ref = s.off_ref := rfl
@[simp] theorem enter_strobe_ref (p : PowerState) (s : State) : (enter p s).strobe_ref = s.strobe_ref := rfl
@[simp] theorem enter_usb_flag (p : PowerState) (s : State) : (enter p s).usb_flag = s.usb_flag := rfl
@[simp] theorem enter_blink_left (p : PowerState) (s : State) : (enter p s).blink_left = s.blink_left := rfl
@[simp] theorem enter_blink_ref (p : PowerState) (s : State) : (enter p s).blink_ref = s.blink_ref := rfl
@[simp] theorem enter_pwr_hold (p : PowerState) (s : State) : (enter p s).pwr_hold = p.supply s.pwr_hold := rfl
@[simp] theorem enter_drv_en (p : PowerState) (s : State) : (enter p s).drv_en = (lightOf s.cfg p).drv_en := rfl
@[simp] theorem enter_drv_mode (p : PowerState) (s : State) : (enter p s).drv_mode = (lightOf s.cfg p).drv_mode := rfl
@[simp] theorem enter_pwm_en (p : PowerState) (s : State) : (enter p s).pwm_en = (lightOf s.cfg p).pwm_en := rfl
@[simp] theorem enter_pwm_level (p : PowerState) (s : State) : (enter p s).pwm_level = (lightOf s.cfg p).pwm_level := rfl
@[simp] theorem enter_wdt_kick (p : PowerState) (s : State) : (enter p s).wdt_kick = s.wdt_kick := rfl
@[simp] theorem enter_res (p : PowerState) (s : State) : (enter p s).res = s.res := rfl
@[simp] theorem enter_cfg (p : PowerState) (s : State) : (enter p s).cfg = s.cfg := rfl
@[simp] theorem enter_opw_queue (p : PowerState) (s : State) : (enter p s).opw_queue = s.opw_queue := rfl

/-! ### The entry of the override (43 R192). -/

@[simp] theorem thermTrigger_tick (s : State) : (thermTrigger s).tick = s.tick := rfl
@[simp] theorem thermTrigger_pin (s : State) : (thermTrigger s).pin = s.pin := rfl
@[simp] theorem thermTrigger_settle_armed (s : State) : (thermTrigger s).settle_armed = s.settle_armed := rfl
@[simp] theorem thermTrigger_settle_cnt (s : State) : (thermTrigger s).settle_cnt = s.settle_cnt := rfl
@[simp] theorem thermTrigger_deb_level (s : State) : (thermTrigger s).deb_level = s.deb_level := rfl
@[simp] theorem thermTrigger_press_count (s : State) : (thermTrigger s).press_count = s.press_count := rfl
@[simp] theorem thermTrigger_release_count (s : State) : (thermTrigger s).release_count = s.release_count := rfl
@[simp] theorem thermTrigger_state (s : State) : (thermTrigger s).state = s.state := rfl
@[simp] theorem thermTrigger_next (s : State) : (thermTrigger s).next = s.next := rfl
@[simp] theorem thermTrigger_modifier (s : State) : (thermTrigger s).modifier = s.modifier := rfl
@[simp] theorem thermTrigger_phase (s : State) : (thermTrigger s).phase = .therm := rfl
@[simp] theorem thermTrigger_ret_phase (s : State) : (thermTrigger s).ret_phase = s.phase := rfl
@[simp] theorem thermTrigger_seen_press (s : State) : (thermTrigger s).seen_press = s.seen_press := rfl
@[simp] theorem thermTrigger_seen_release (s : State) : (thermTrigger s).seen_release = s.seen_release := rfl
@[simp] theorem thermTrigger_down_tick (s : State) : (thermTrigger s).down_tick = s.down_tick := rfl
@[simp] theorem thermTrigger_off_ref (s : State) : (thermTrigger s).off_ref = s.off_ref := rfl
@[simp] theorem thermTrigger_strobe_ref (s : State) : (thermTrigger s).strobe_ref = s.strobe_ref := rfl
@[simp] theorem thermTrigger_usb_flag (s : State) : (thermTrigger s).usb_flag = s.usb_flag := rfl
@[simp] theorem thermTrigger_blink_left (s : State) : (thermTrigger s).blink_left = 6#3 := rfl
@[simp] theorem thermTrigger_blink_ref (s : State) : (thermTrigger s).blink_ref = s.tick := rfl
@[simp] theorem thermTrigger_pwr_hold (s : State) : (thermTrigger s).pwr_hold = s.pwr_hold := rfl
@[simp] theorem thermTrigger_drv_en (s : State) : (thermTrigger s).drv_en = true := rfl
@[simp] theorem thermTrigger_drv_mode (s : State) : (thermTrigger s).drv_mode = false := rfl
@[simp] theorem thermTrigger_pwm_en (s : State) : (thermTrigger s).pwm_en = false := rfl
@[simp] theorem thermTrigger_pwm_level (s : State) : (thermTrigger s).pwm_level = 0#8 := rfl
@[simp] theorem thermTrigger_wdt_kick (s : State) : (thermTrigger s).wdt_kick = s.wdt_kick := rfl
@[simp] theorem thermTrigger_res (s : State) : (thermTrigger s).res = s.res := rfl
@[simp] theorem thermTrigger_cfg (s : State) : (thermTrigger s).cfg = s.cfg := rfl
@[simp] theorem thermTrigger_opw_queue (s : State) : (thermTrigger s).opw_queue = s.opw_queue := rfl

/-! ### One toggle of the warning (43 R194). -/

@[simp] theorem thermToggle_tick (s : State) : (thermToggle s).tick = s.tick := rfl
@[simp] theorem thermToggle_pin (s : State) : (thermToggle s).pin = s.pin := rfl
@[simp] theorem thermToggle_settle_armed (s : State) : (thermToggle s).settle_armed = s.settle_armed := rfl
@[simp] theorem thermToggle_settle_cnt (s : State) : (thermToggle s).settle_cnt = s.settle_cnt := rfl
@[simp] theorem thermToggle_deb_level (s : State) : (thermToggle s).deb_level = s.deb_level := rfl
@[simp] theorem thermToggle_press_count (s : State) : (thermToggle s).press_count = s.press_count := rfl
@[simp] theorem thermToggle_release_count (s : State) : (thermToggle s).release_count = s.release_count := rfl
@[simp] theorem thermToggle_state (s : State) : (thermToggle s).state = s.state := rfl
@[simp] theorem thermToggle_next (s : State) : (thermToggle s).next = s.next := rfl
@[simp] theorem thermToggle_modifier (s : State) : (thermToggle s).modifier = s.modifier := rfl
@[simp] theorem thermToggle_phase (s : State) : (thermToggle s).phase = s.phase := rfl
@[simp] theorem thermToggle_ret_phase (s : State) : (thermToggle s).ret_phase = s.ret_phase := rfl
@[simp] theorem thermToggle_seen_press (s : State) : (thermToggle s).seen_press = s.seen_press := rfl
@[simp] theorem thermToggle_seen_release (s : State) : (thermToggle s).seen_release = s.seen_release := rfl
@[simp] theorem thermToggle_down_tick (s : State) : (thermToggle s).down_tick = s.down_tick := rfl
@[simp] theorem thermToggle_off_ref (s : State) : (thermToggle s).off_ref = s.off_ref := rfl
@[simp] theorem thermToggle_strobe_ref (s : State) : (thermToggle s).strobe_ref = s.strobe_ref := rfl
@[simp] theorem thermToggle_usb_flag (s : State) : (thermToggle s).usb_flag = s.usb_flag := rfl
@[simp] theorem thermToggle_blink_left (s : State) : (thermToggle s).blink_left = s.blink_left - 1#3 := rfl
@[simp] theorem thermToggle_blink_ref (s : State) : (thermToggle s).blink_ref = s.tick := rfl
@[simp] theorem thermToggle_pwr_hold (s : State) : (thermToggle s).pwr_hold = s.pwr_hold := rfl
@[simp] theorem thermToggle_drv_en (s : State) : (thermToggle s).drv_en = (!s.drv_en) := rfl
@[simp] theorem thermToggle_drv_mode (s : State) : (thermToggle s).drv_mode = s.drv_mode := rfl
@[simp] theorem thermToggle_pwm_en (s : State) : (thermToggle s).pwm_en = s.pwm_en := rfl
@[simp] theorem thermToggle_pwm_level (s : State) : (thermToggle s).pwm_level = s.pwm_level := rfl
@[simp] theorem thermToggle_wdt_kick (s : State) : (thermToggle s).wdt_kick = s.wdt_kick := rfl
@[simp] theorem thermToggle_res (s : State) : (thermToggle s).res = s.res := rfl
@[simp] theorem thermToggle_cfg (s : State) : (thermToggle s).cfg = s.cfg := rfl
@[simp] theorem thermToggle_opw_queue (s : State) : (thermToggle s).opw_queue = s.opw_queue := rfl

/-! ### The return of the override (43 R195). -/

@[simp] theorem thermFinish_tick (s : State) : (thermFinish s).tick = s.tick := rfl
@[simp] theorem thermFinish_pin (s : State) : (thermFinish s).pin = s.pin := rfl
@[simp] theorem thermFinish_settle_armed (s : State) : (thermFinish s).settle_armed = s.settle_armed := rfl
@[simp] theorem thermFinish_settle_cnt (s : State) : (thermFinish s).settle_cnt = s.settle_cnt := rfl
@[simp] theorem thermFinish_deb_level (s : State) : (thermFinish s).deb_level = s.deb_level := rfl
@[simp] theorem thermFinish_press_count (s : State) : (thermFinish s).press_count = s.press_count := rfl
@[simp] theorem thermFinish_release_count (s : State) : (thermFinish s).release_count = s.release_count := rfl
@[simp] theorem thermFinish_state (s : State) : (thermFinish s).state = .low := rfl
@[simp] theorem thermFinish_next (s : State) : (thermFinish s).next = .off := rfl
@[simp] theorem thermFinish_modifier (s : State) : (thermFinish s).modifier = s.modifier := rfl
@[simp] theorem thermFinish_phase (s : State) : (thermFinish s).phase = s.ret_phase := rfl
@[simp] theorem thermFinish_ret_phase (s : State) : (thermFinish s).ret_phase = s.ret_phase := rfl
@[simp] theorem thermFinish_seen_press (s : State) : (thermFinish s).seen_press = s.seen_press := rfl
@[simp] theorem thermFinish_seen_release (s : State) : (thermFinish s).seen_release = s.seen_release := rfl
@[simp] theorem thermFinish_down_tick (s : State) : (thermFinish s).down_tick = s.down_tick := rfl
@[simp] theorem thermFinish_off_ref (s : State) : (thermFinish s).off_ref = s.off_ref := rfl
@[simp] theorem thermFinish_strobe_ref (s : State) : (thermFinish s).strobe_ref = s.strobe_ref := rfl
@[simp] theorem thermFinish_usb_flag (s : State) : (thermFinish s).usb_flag = s.usb_flag := rfl
@[simp] theorem thermFinish_blink_left (s : State) : (thermFinish s).blink_left = s.blink_left := rfl
@[simp] theorem thermFinish_blink_ref (s : State) : (thermFinish s).blink_ref = s.blink_ref := rfl
@[simp] theorem thermFinish_pwr_hold (s : State) : (thermFinish s).pwr_hold = s.pwr_hold := rfl
@[simp] theorem thermFinish_drv_en (s : State) : (thermFinish s).drv_en = false := rfl
@[simp] theorem thermFinish_drv_mode (s : State) : (thermFinish s).drv_mode = false := rfl
@[simp] theorem thermFinish_pwm_en (s : State) : (thermFinish s).pwm_en = true := rfl
@[simp] theorem thermFinish_pwm_level (s : State) : (thermFinish s).pwm_level = s.cfg.lowDuty := rfl
@[simp] theorem thermFinish_wdt_kick (s : State) : (thermFinish s).wdt_kick = s.wdt_kick := rfl
@[simp] theorem thermFinish_res (s : State) : (thermFinish s).res = s.res := rfl
@[simp] theorem thermFinish_cfg (s : State) : (thermFinish s).cfg = s.cfg := rfl
@[simp] theorem thermFinish_opw_queue (s : State) : (thermFinish s).opw_queue = s.opw_queue := rfl

/-! ### The reset values (70 R240, 10_state R53). -/

@[simp] theorem resetRegisters_tick (level : Level) (s : State) : (resetRegisters level s).tick = 0#8 := rfl
@[simp] theorem resetRegisters_pin (level : Level) (s : State) : (resetRegisters level s).pin = level := rfl
@[simp] theorem resetRegisters_settle_armed (level : Level) (s : State) : (resetRegisters level s).settle_armed = false := rfl
@[simp] theorem resetRegisters_settle_cnt (level : Level) (s : State) : (resetRegisters level s).settle_cnt = 0 := rfl
@[simp] theorem resetRegisters_deb_level (level : Level) (s : State) : (resetRegisters level s).deb_level = .released := rfl
@[simp] theorem resetRegisters_press_count (level : Level) (s : State) : (resetRegisters level s).press_count = 0#8 := rfl
@[simp] theorem resetRegisters_release_count (level : Level) (s : State) : (resetRegisters level s).release_count = 0#8 := rfl
@[simp] theorem resetRegisters_state (level : Level) (s : State) : (resetRegisters level s).state = .off := rfl
@[simp] theorem resetRegisters_next (level : Level) (s : State) : (resetRegisters level s).next = .low := rfl
@[simp] theorem resetRegisters_modifier (level : Level) (s : State) : (resetRegisters level s).modifier = .solid := rfl
@[simp] theorem resetRegisters_phase (level : Level) (s : State) : (resetRegisters level s).phase = .boot := rfl
@[simp] theorem resetRegisters_ret_phase (level : Level) (s : State) : (resetRegisters level s).ret_phase = .waitDown := rfl
@[simp] theorem resetRegisters_seen_press (level : Level) (s : State) : (resetRegisters level s).seen_press = 0#8 := rfl
@[simp] theorem resetRegisters_seen_release (level : Level) (s : State) : (resetRegisters level s).seen_release = 0#8 := rfl
@[simp] theorem resetRegisters_down_tick (level : Level) (s : State) : (resetRegisters level s).down_tick = 0#8 := rfl
@[simp] theorem resetRegisters_off_ref (level : Level) (s : State) : (resetRegisters level s).off_ref = 0#8 := rfl
@[simp] theorem resetRegisters_strobe_ref (level : Level) (s : State) : (resetRegisters level s).strobe_ref = 0#8 := rfl
@[simp] theorem resetRegisters_usb_flag (level : Level) (s : State) : (resetRegisters level s).usb_flag = false := rfl
@[simp] theorem resetRegisters_blink_left (level : Level) (s : State) : (resetRegisters level s).blink_left = 0#3 := rfl
@[simp] theorem resetRegisters_blink_ref (level : Level) (s : State) : (resetRegisters level s).blink_ref = 0#8 := rfl
@[simp] theorem resetRegisters_pwr_hold (level : Level) (s : State) : (resetRegisters level s).pwr_hold = false := rfl
@[simp] theorem resetRegisters_drv_en (level : Level) (s : State) : (resetRegisters level s).drv_en = false := rfl
@[simp] theorem resetRegisters_drv_mode (level : Level) (s : State) : (resetRegisters level s).drv_mode = false := rfl
@[simp] theorem resetRegisters_pwm_en (level : Level) (s : State) : (resetRegisters level s).pwm_en = false := rfl
@[simp] theorem resetRegisters_pwm_level (level : Level) (s : State) : (resetRegisters level s).pwm_level = 0#8 := rfl
@[simp] theorem resetRegisters_wdt_kick (level : Level) (s : State) : (resetRegisters level s).wdt_kick = s.wdt_kick := rfl
@[simp] theorem resetRegisters_res (level : Level) (s : State) : (resetRegisters level s).res = s.res := rfl
@[simp] theorem resetRegisters_cfg (level : Level) (s : State) : (resetRegisters level s).cfg = s.cfg := rfl
@[simp] theorem resetRegisters_opw_queue (level : Level) (s : State) : (resetRegisters level s).opw_queue = s.opw_queue := rfl

end Sys2Proof.Machine
end

