-- ==== Sys2Proof/Laws/Ops.lean ====
section
/-!
SUPPORT. One lemma per shared operation that says once what it can do, for later proofs to cite.
-/
namespace Sys2Proof.Machine

/-! ### Comparisons -/

theorem elapsed_toNat (ref until_ : Byte) : (elapsed ref until_).toNat = (until_.toNat + 256 - ref.toNat) % 256 := by
  unfold elapsed
  rw [BitVec.toNat_sub]
  omega

theorem due_iff (s : State) (ref : Byte) (n : Nat) :
    s.due ref n = true ↔ n ≤ (s.tick.toNat + 256 - ref.toNat) % 256 := by simp [State.due]

theorem isBright_iff (s : State) : s.isBright = true ↔ s.state = .med ∨ s.state = .high := by simp [State.isBright]

theorem waits_iff (p : Phase) : p.waits = true ↔ p = .waitDown ∨ p = .waitUp ∨ p = .waitRel := by
  simp [Phase.waits]

theorem overheats_iff (s : State) (temp : Byte) :
    s.overheats temp = true ↔ (s.state = .med ∨ s.state = .high) ∧ s.cfg.overtempThreshold.toNat < temp.toNat := by
  simp [State.overheats, State.isBright]

/-- The comparator of 40 R105 in the terms of the statements. -/
theorem expired_eq_due (s : State) (ref : Byte) (n : Nat) : expired s ref n = s.due ref n := by
  simp [expired, elapsed_toNat, State.due]

theorem aboveLow_eq (p : PowerState) : aboveLow p = decide (p = .med ∨ p = .high) := by cases p <;> rfl

theorem aboveLow_eq_isBright (s : State) : aboveLow s.state = s.isBright := aboveLow_eq s.state

/-- The thermal comparator of 43 R190, R191 in the terms of the statements. -/
theorem overtemp_eq_overheats (temp : Byte) (s : State) : overtemp temp s = s.overheats temp := by
  rw [overtemp, aboveLow_eq_isBright, State.overheats]

theorem buttonDown_iff (s : State) : buttonDown s = true ↔ s.press_count ≠ s.seen_press := by simp [buttonDown]

theorem buttonUp_iff (s : State) : buttonUp s = true ↔ s.release_count ≠ s.seen_release := by simp [buttonUp]

/-! ### The settle timer -/

theorem countDown_pos (p : Params) {cnt : Nat} (h : 1 ≤ cnt) : countDown p cnt = cnt - 1 := by
  simp [countDown, show cnt ≠ 0 by omega]

/-- What the expiry does (41 R126), by the pin and the debounced level. -/
theorem expire_cases (s : State) :
    (s.pin = s.deb_level ∧ expire s = { s with settle_armed := false }) ∨
    (s.pin = .pressed ∧ s.deb_level = .released ∧
      expire s = { s with settle_armed := false, deb_level := .pressed, press_count := s.press_count + 1#8 }) ∨
    (s.pin = .released ∧ s.deb_level = .pressed ∧
      expire s = { s with settle_armed := false, deb_level := .released, release_count := s.release_count + 1#8 }) := by
  cases hp : s.pin <;> cases hd : s.deb_level <;> simp [expire, countEdge, hp, hd]

/-- An armed timer above 1 counts down (41 R125). -/
theorem settleStep_counts (s : State) (h : 2 ≤ s.settle_cnt) :
    settleStep s = { s with settle_cnt := s.settle_cnt - 1 } := by
  have h1 : s.settle_cnt - 1 ≠ 0 := by omega
  simp [settleStep, countDown_pos s.cfg (show 1 ≤ s.settle_cnt by omega), h1]

/-- An armed timer at 1 expires (41 R125). -/
theorem settleStep_expires (s : State) (h : s.settle_cnt = 1) :
    settleStep s = expire { s with settle_cnt := 0 } := by
  simp [settleStep, countDown, h]

/-- What SCLK does to the registers (41 R125, R126), in every state: nothing while disarmed; one less while the value
written is not 0; else the expiry. -/
theorem sclk_cases (s : State) :
    (s.settle_armed = false ∧ (if s.settle_armed then settleStep s else s) = s) ∨
    (s.settle_armed = true ∧ countDown s.cfg s.settle_cnt ≠ 0 ∧
      (if s.settle_armed then settleStep s else s) = { s with settle_cnt := countDown s.cfg s.settle_cnt }) ∨
    (s.settle_armed = true ∧ countDown s.cfg s.settle_cnt = 0 ∧
      (if s.settle_armed then settleStep s else s) = expire { s with settle_cnt := 0 }) := by
  by_cases ha : s.settle_armed = true
  · by_cases h : countDown s.cfg s.settle_cnt = 0 <;> simp [settleStep, h, ha]
  · simp [ha]

/-! ### The idle routine -/

/-- Duties (3) and (4) of the idle routine as one record (42 R146, R147). -/
theorem idleStrobe_idleChg (chg : Bool) (s : State) :
    (idleStrobe (idleChg chg s)).withOutputs true 0#8 = s.idled chg := by
  simp only [idleStrobe, idleChg, strobeToggle, State.idled, State.withOutputs, State.strobes, State.isBright,
    State.due, expired_eq_due, aboveLow_eq, decide_eq_true_eq, Bool.and_eq_true]
  by_cases h : s.cfg.strobeHalfTicks ≤ (s.tick.toNat + 256 - s.strobe_ref.toNat) % 256 <;>
    by_cases hm : s.modifier = .strobe <;> by_cases hb : s.state = .med ∨ s.state = .high <;>
    cases chg <;> simp [h, hm, hb]

/-- The thermal check does nothing or starts the warning sequence (43 R191). -/
theorem thermCheck_eq (temp : Byte) (s : State) :
    thermCheck temp s = if s.overheats temp then thermTrigger s else s := by
  unfold thermCheck
  rw [overtemp_eq_overheats]

/-- The two duties before the thermal check write `usb_flag`, `strobe_ref` and `drv_en` only. -/
theorem idleStrobe_idleChg_eq (chg : Bool) (s : State) :
    idleStrobe (idleChg chg s) =
      { s with
        usb_flag := (s.idled chg).usb_flag
        strobe_ref := (s.idled chg).strobe_ref
        drv_en := (s.idled chg).drv_en } := by
  have h := idleStrobe_idleChg chg s
  have hk : ∀ u : State, u = { u.withOutputs true 0#8 with wdt_kick := u.wdt_kick, res := u.res } := fun _ => rfl
  have hw : (idleStrobe (idleChg chg s)).wdt_kick = s.wdt_kick := by
    unfold idleStrobe idleChg strobeToggle
    repeat' split
    all_goals rfl
  have hr : (idleStrobe (idleChg chg s)).res = s.res := by
    unfold idleStrobe idleChg strobeToggle
    repeat' split
    all_goals rfl
  rw [hk (idleStrobe (idleChg chg s)), h, hw, hr]
  rfl

/-- The idle routine (42 R145): its first two duties, then the override's entry when the check fires. -/
theorem idle_eq (temp : Byte) (chg : Bool) (s : State) :
    idle temp chg s =
      if s.overheats temp then thermTrigger (idleStrobe (idleChg chg s)) else idleStrobe (idleChg chg s) := by
  have h : (idleStrobe (idleChg chg s)).overheats temp = s.overheats temp := by
    rw [idleStrobe_idleChg_eq]
    rfl
  rw [idle, thermCheck_eq, h]

/-- One spin of a wait phase when the thermal check fires: the wait test is skipped (42 R148). -/
theorem spinWait_overheats {temp : Byte} {s : State} (chg : Bool) (test : State → State) (hw : s.phase.waits)
    (h : s.overheats temp) : spinWait temp chg test s = thermTrigger (idleStrobe (idleChg chg s)) := by
  have hp : s.phase ≠ .therm := by
    rcases (waits_iff _).mp hw with h | h | h <;> simp [h]
  rw [spinWait, idle_eq, if_pos h]
  exact if_neg hp.symm

/-- One spin of a wait phase when it does not: the idle duties, then the wait test. -/
theorem spinWait_cool {temp : Byte} {s : State} (chg : Bool) (test : State → State) (h : ¬s.overheats temp) :
    spinWait temp chg test s = test (idleStrobe (idleChg chg s)) := by
  have hp : (idleStrobe (idleChg chg s)).phase = s.phase := by rw [idleStrobe_idleChg_eq]
  rw [spinWait, idle_eq, if_neg h]
  exact if_pos hp

/-- A step of the warning sequence (43 R193). -/
theorem thermStep_eq (s : State) :
    thermStep s =
      if s.due s.blink_ref (halfSecTicks s.cfg) then
        (if s.blink_left = 0#3 then thermFinish s else thermToggle s)
      else s := by
  rw [thermStep, expired_eq_due]
  congr 1
  by_cases h0 : s.blink_left = 0#3 <;> simp [h0]

end Sys2Proof.Machine
end

