-- ==== Sys2Proof/Laws/Exec.lean ====
section
/-!
SUPPORT. What `exec` and `step` can do: every operation completes (60 R210), so `exec` is a function of the state, and a
step is the decoded operation or one of two refusals.
-/
namespace Sys2Proof.Machine

/-- The state an operation leads to. -/
def resultOf (i : Instr) (s : State) : State :=
  match i with
  | .nop => s.withOutputs false 0#8
  | .tick => ({ s with tick := s.tick + 1#8 }).withOutputs false 0#8
  | .now => s.withOutputs false s.tick
  | .elapsed ref until_ => s.withOutputs false (elapsed ref until_)
  | .expired ref thr => s.withOutputs false (zext8 (expired s ref thr.toNat))
  | .pin level => (if level ≠ s.pin then arm { s with pin := level } else s).withOutputs false 0#8
  | .sclk => (if s.settle_armed then settleStep s else s).withOutputs false 0#8
  | .poll temp chg usbboot => (pollPhase temp chg usbboot s).withOutputs true 0#8
  | .rst level => (resetRegisters level s).withOutputs false 0#8

/-- `exec` answers the next state `resultOf`. -/
theorem exec_eq_next_resultOf (i : Instr) (s : State) : exec i s = .next (resultOf i s) := by
  cases i <;> rfl

theorem exec_next_iff {i : Instr} {s t : State} : exec i s = .next t ↔ t = resultOf i s := by
  rw [exec_eq_next_resultOf]
  constructor
  · intro h
    cases h
    rfl
  · rintro rfl
    rfl

@[simp] theorem execAll_nil (s : State) : execAll [] s = .next s := rfl

theorem execAll_cons (i : Instr) (rest : List Instr) (s : State) :
    execAll (i :: rest) s = execAll rest (resultOf i s) := by
  simp [execAll, exec_eq_next_resultOf]

/-- A run of a list in two parts. -/
theorem execAll_append (is js : List Instr) {s t : State} (h : execAll is s = .next t) :
    execAll (is ++ js) s = execAll js t := by
  induction is generalizing s with
  | nil => simpa using congrArg (fun o => match o with | .next u => execAll js u | o => o) h
  | cons i rest ih =>
    rw [List.cons_append, execAll_cons]
    exact ih (by rwa [execAll_cons] at h)

/-- A step that answers a next state runs the operation its word decodes to, under a legal configuration. -/
theorem step_next_cases {s t : State} (h : step s = .next t) :
    s.cfg.legal = true ∧ ∃ i, decode s.portWord = .instr i ∧ t = resultOf i s.takeWord := by
  unfold step at h
  split at h
  · rename_i hl
    split at h
    · rename_i i hd
      exact ⟨hl, i, hd, exec_next_iff.mp h⟩
    · cases h
  · cases h

end Sys2Proof.Machine
end

