-- ==== Sys2Proof/Laws/Poll.lean ====
section
/-!
SUPPORT. What one POLL can do, said once (42 R140, R141): the cases of `pollPhase`, each with its guard and the registers it
leaves. Later proofs take a POLL apart by `cases pollPhase_cases ...` and unfold none of its procedures.
-/
namespace Sys2Proof.Machine

/-- The registers after duties (3) and (4) of the idle routine (42 R146, R147). -/
def State.duties (s : State) (chg : Bool) : State :=
  { s with
    usb_flag := (s.idled chg).usb_flag
    strobe_ref := (s.idled chg).strobe_ref
    drv_en := (s.idled chg).drv_en }

theorem idleStrobe_idleChg_duties (chg : Bool) (s : State) : idleStrobe (idleChg chg s) = s.duties chg :=
  idleStrobe_idleChg_eq chg s

/-- With the step outputs of POLL, the duties are the record `idled`. -/
theorem duties_withOutputs (s : State) (chg : Bool) : (s.duties chg).withOutputs true 0#8 = s.idled chg := rfl

/-- The cases of a POLL, by phase and condition (42 R141). -/
inductive PollCase (temp : Byte) (chg usbboot : Bool) (s : State) : State → Prop where
  | bootHeld (hp : s.phase = .boot) (h : s.pin = .pressed) : PollCase temp chg usbboot s
      { enter s.next { s with usb_flag := s.usb_flag || usbboot } with phase := .waitDown }
  | bootReleased (hp : s.phase = .boot) (h : s.pin = .released) : PollCase temp chg usbboot s
      { enter .off { s with usb_flag := s.usb_flag || usbboot } with phase := .offRel }
  | overheat (hp : s.phase.waits) (h : s.overheats temp) : PollCase temp chg usbboot s (thermTrigger (s.duties chg))
  | downQuiet (hp : s.phase = .waitDown) (hc : ¬s.overheats temp) (h : s.press_count = s.seen_press) :
      PollCase temp chg usbboot s (s.duties chg)
  | down (hp : s.phase = .waitDown) (hc : ¬s.overheats temp) (h : s.press_count ≠ s.seen_press) :
      PollCase temp chg usbboot s
        { s.duties chg with seen_press := s.press_count, down_tick := s.tick, phase := .waitUp }
  | shortOff (hp : s.phase = .waitUp) (hc : ¬s.overheats temp) (h : s.release_count ≠ s.seen_release)
      (hn : s.next = .off) : PollCase temp chg usbboot s
        { enter .off { s.duties chg with seen_release := s.release_count, modifier := .solid } with phase := .offRel }
  | shortOn (hp : s.phase = .waitUp) (hc : ¬s.overheats temp) (h : s.release_count ≠ s.seen_release)
      (hn : s.next ≠ .off) : PollCase temp chg usbboot s
        { enter s.next { s.duties chg with seen_release := s.release_count } with phase := .waitDown }
  | longOff (hp : s.phase = .waitUp) (hc : ¬s.overheats temp) (h : s.release_count = s.seen_release)
      (hd : s.due s.down_tick s.cfg.longTicks) (hs : s.state = .off) : PollCase temp chg usbboot s
        { enter s.next (s.duties chg) with phase := .waitRel }
  | longStrobe (hp : s.phase = .waitUp) (hc : ¬s.overheats temp) (h : s.release_count = s.seen_release)
      (hd : s.due s.down_tick s.cfg.longTicks) (hs : s.state ≠ .off) (hm : s.modifier = .solid) :
      PollCase temp chg usbboot s { s.duties chg with modifier := .strobe, phase := .waitRel }
  | longSolid (hp : s.phase = .waitUp) (hc : ¬s.overheats temp) (h : s.release_count = s.seen_release)
      (hd : s.due s.down_tick s.cfg.longTicks) (hs : s.state ≠ .off) (hm : s.modifier = .strobe) :
      PollCase temp chg usbboot s
        { applyLight s.state { s.duties chg with modifier := .solid } with phase := .waitRel }
  | held (hp : s.phase = .waitUp) (hc : ¬s.overheats temp) (h : s.release_count = s.seen_release)
      (hd : ¬s.due s.down_tick s.cfg.longTicks) : PollCase temp chg usbboot s (s.duties chg)
  | relQuiet (hp : s.phase = .waitRel) (hc : ¬s.overheats temp) (h : s.release_count = s.seen_release) :
      PollCase temp chg usbboot s (s.duties chg)
  | rel (hp : s.phase = .waitRel) (hc : ¬s.overheats temp) (h : s.release_count ≠ s.seen_release) :
      PollCase temp chg usbboot s { s.duties chg with seen_release := s.release_count, phase := .waitDown }
  | offHeld (hp : s.phase = .offRel) (h : s.pin ≠ .released) : PollCase temp chg usbboot s s
  | offReleased (hp : s.phase = .offRel) (h : s.pin = .released) : PollCase temp chg usbboot s
      { s with off_ref := s.tick, phase := .offSettle }
  | settling (hp : s.phase = .offSettle) (hd : ¬s.due s.off_ref s.cfg.offSettleTicks) :
      PollCase temp chg usbboot s s
  | settled (hp : s.phase = .offSettle) (hd : s.due s.off_ref s.cfg.offSettleTicks) : PollCase temp chg usbboot s
      { s with usb_flag := true, phase := .waitDown }
  | warningWaits (hp : s.phase = .therm) (hd : ¬s.due s.blink_ref (halfSecTicks s.cfg)) :
      PollCase temp chg usbboot s s
  | warningToggles (hp : s.phase = .therm) (hd : s.due s.blink_ref (halfSecTicks s.cfg)) (h : s.blink_left ≠ 0#3) :
      PollCase temp chg usbboot s (thermToggle s)
  | warningEnds (hp : s.phase = .therm) (hd : s.due s.blink_ref (halfSecTicks s.cfg)) (h : s.blink_left = 0#3) :
      PollCase temp chg usbboot s (thermFinish s)
  | reservedPhase (hp : s.phase = .reserved) : PollCase temp chg usbboot s s

/-- The wait test of P_WAIT_DOWN (42 R150). -/
theorem waitDown_duties (s : State) (chg : Bool) :
    waitDown (s.duties chg) =
      if s.press_count = s.seen_press then s.duties chg
      else { s.duties chg with seen_press := s.press_count, down_tick := s.tick, phase := .waitUp } := by
  unfold waitDown
  by_cases h : s.press_count = s.seen_press <;> simp [buttonDown, State.duties, h]

/-- The wait test of P_WAIT_REL (42 R154). -/
theorem waitRel_duties (s : State) (chg : Bool) :
    waitRel (s.duties chg) =
      if s.release_count = s.seen_release then s.duties chg
      else { s.duties chg with seen_release := s.release_count, phase := .waitDown } := by
  unfold waitRel
  by_cases h : s.release_count = s.seen_release <;> simp [buttonUp, State.duties, h]

/-- The wait test of P_WAIT_UP (42 R151): the release first, then the threshold. -/
theorem waitUp_duties (s : State) (chg : Bool) :
    waitUp (s.duties chg) =
      if s.release_count = s.seen_release then
        (if s.due s.down_tick s.cfg.longTicks then longAction (s.duties chg) else s.duties chg)
      else shortAction { s.duties chg with seen_release := s.release_count } := by
  have he : expired (s.duties chg) (s.duties chg).down_tick (s.duties chg).cfg.longTicks =
      s.due s.down_tick s.cfg.longTicks := expired_eq_due _ _ _
  unfold waitUp
  by_cases h : s.release_count = s.seen_release
  · rw [if_neg (by simp [buttonUp, State.duties, h]), if_pos h, he]
  · rw [if_pos (by simp [buttonUp, State.duties, h]), if_neg h]
    rfl

/-- Every POLL is one of the cases. -/
theorem pollPhase_cases (temp : Byte) (chg usbboot : Bool) (s : State) :
    PollCase temp chg usbboot s (pollPhase temp chg usbboot s) := by
  cases hp : s.phase with
  | boot =>
    rw [show pollPhase temp chg usbboot s = boot usbboot s by simp only [pollPhase, hp]]
    unfold boot
    split
    · exact .bootHeld hp ‹_›
    · exact .bootReleased hp ‹_›
  | waitDown =>
    have hw : s.phase.waits := (waits_iff _).mpr (.inl hp)
    by_cases ho : s.overheats temp
    · rw [show pollPhase temp chg usbboot s = spinWait temp chg waitDown s by simp only [pollPhase, hp],
        spinWait_overheats chg _ hw ho, idleStrobe_idleChg_duties]
      exact .overheat hw ho
    · rw [show pollPhase temp chg usbboot s = spinWait temp chg waitDown s by simp only [pollPhase, hp],
        spinWait_cool chg _ ho, idleStrobe_idleChg_duties, waitDown_duties]
      split
      · exact .downQuiet hp ho ‹_›
      · exact .down hp ho ‹_›
  | waitUp =>
    have hw : s.phase.waits := (waits_iff _).mpr (.inr (.inl hp))
    by_cases ho : s.overheats temp
    · rw [show pollPhase temp chg usbboot s = spinWait temp chg waitUp s by simp only [pollPhase, hp],
        spinWait_overheats chg _ hw ho, idleStrobe_idleChg_duties]
      exact .overheat hw ho
    · rw [show pollPhase temp chg usbboot s = spinWait temp chg waitUp s by simp only [pollPhase, hp],
        spinWait_cool chg _ ho, idleStrobe_idleChg_duties, waitUp_duties]
      split
      · rename_i hr
        split
        · rename_i hd
          by_cases hs : s.state = .off
          · have e : longAction (s.duties chg) = { enter s.next (s.duties chg) with phase := .waitRel } := by
              rw [longAction, if_pos (show (s.duties chg).state = .off from hs)]
              rfl
            exact e ▸ .longOff hp ho hr hd hs
          · rw [longAction, if_neg (show ¬(s.duties chg).state = .off from hs)]
            cases hm : s.modifier with
            | solid =>
              have e : toggleModifier (s.duties chg) = { s.duties chg with modifier := .strobe } := by
                simp [toggleModifier, State.duties, hm, Modifier.flip]
              rw [e]
              exact .longStrobe hp ho hr hd hs hm
            | strobe =>
              have e : toggleModifier (s.duties chg) =
                  applyLight s.state { s.duties chg with modifier := .solid } := by
                simp [toggleModifier, State.duties, hm, Modifier.flip]
              rw [e]
              exact .longSolid hp ho hr hd hs hm
        · exact .held hp ho hr ‹_›
      · rename_i hr
        by_cases hn : s.next = .off
        · have e : shortAction { s.duties chg with seen_release := s.release_count } =
              { enter .off { s.duties chg with seen_release := s.release_count, modifier := .solid } with
                phase := .offRel } := by
            simp [shortAction, State.duties, hn]
          rw [e]
          exact .shortOff hp ho hr hn
        · have e : shortAction { s.duties chg with seen_release := s.release_count } =
              { enter s.next { s.duties chg with seen_release := s.release_count } with phase := .waitDown } := by
            simp [shortAction, State.duties, hn]
          rw [e]
          exact .shortOn hp ho hr hn
  | waitRel =>
    have hw : s.phase.waits := (waits_iff _).mpr (.inr (.inr hp))
    by_cases ho : s.overheats temp
    · rw [show pollPhase temp chg usbboot s = spinWait temp chg waitRel s by simp only [pollPhase, hp],
        spinWait_overheats chg _ hw ho, idleStrobe_idleChg_duties]
      exact .overheat hw ho
    · rw [show pollPhase temp chg usbboot s = spinWait temp chg waitRel s by simp only [pollPhase, hp],
        spinWait_cool chg _ ho, idleStrobe_idleChg_duties, waitRel_duties]
      split
      · exact .relQuiet hp ho ‹_›
      · exact .rel hp ho ‹_›
  | offRel =>
    rw [show pollPhase temp chg usbboot s = offRel s by simp only [pollPhase, hp], offRel]
    split
    · exact .offReleased hp ‹_›
    · exact .offHeld hp ‹_›
  | offSettle =>
    rw [show pollPhase temp chg usbboot s = offSettle s by simp only [pollPhase, hp], offSettle,
      expired_eq_due]
    split
    · exact .settled hp ‹_›
    · exact .settling hp ‹_›
  | therm =>
    rw [show pollPhase temp chg usbboot s = thermStep s by simp only [pollPhase, hp], thermStep_eq]
    split
    · rename_i hd
      split
      · exact .warningEnds hp hd ‹_›
      · exact .warningToggles hp hd ‹_›
    · exact .warningWaits hp ‹_›
  | reserved =>
    rw [show pollPhase temp chg usbboot s = s by simp only [pollPhase, hp]]
    exact .reservedPhase hp

end Sys2Proof.Machine
end

