-- ==== Sys2Proof/Tests/Slice0.lean ====
section
/-!
SUPPORT. Tests. Expected results come from the spec: the pattern column of 30_encoding R83 and the vectors E, T, B, F, H
of 95_test_vectors. The theorems `witness_...` show, for each statement of the certificates, concrete values that meet its
hypotheses.
-/
namespace Sys2Proof.Tests

open Sys2Proof Sys2Proof.Machine

/-- The operation led to a state with the property. -/
def after (o : Host.Outcome State Fault Refusal) (p : State → Bool) : Bool :=
  match o with
  | .next t => p t
  | .fault _ => false
  | .refused _ => false

/-! ### Well-formedness: one ill-formed term for each check -/

/-- 00_scope R7, column "test value". -/
theorem test_tc_is_legal : Params.tc.legal = true := by decide
theorem test_ticks_per_second_1_refused : ({ Params.tc with ticksPerSecond := 1 } : Params).legal = false := by decide
theorem test_ticks_per_second_255_refused : ({ Params.tc with ticksPerSecond := 255 } : Params).legal = false := by decide
theorem test_long_ticks_0_refused : ({ Params.tc with longTicks := 0 } : Params).legal = false := by decide
theorem test_long_ticks_128_refused : ({ Params.tc with longTicks := 128 } : Params).legal = false := by decide
theorem test_strobe_128_refused : ({ Params.tc with strobeHalfTicks := 128 } : Params).legal = false := by decide
theorem test_off_settle_0_refused : ({ Params.tc with offSettleTicks := 0 } : Params).legal = false := by decide
theorem test_settle_count_0_refused : ({ Params.tc with settleCount := 0 } : Params).legal = false := by decide

/-- 30_encoding R90: too few operands, too many, an operand above its range. -/
theorem test_elapsed_needs_two_operands : AsmLine.wellFormed ⟨.ELAPSED, [250]⟩ = false := by decide
theorem test_nop_takes_no_operand : AsmLine.wellFormed ⟨.NOP, [0]⟩ = false := by decide
theorem test_pin_level_is_one_bit : AsmLine.wellFormed ⟨.PIN, [2]⟩ = false := by decide
theorem test_poll_temp_is_8_bits : AsmLine.wellFormed ⟨.POLL, [256]⟩ = false := by decide
theorem test_poll_usbboot_is_one_bit : AsmLine.wellFormed ⟨.POLL, [0, 0, 2]⟩ = false := by decide

/-! ### Decoding -/

/-- E1 to E5, E16. -/
theorem test_decode_tick_clock :
    decode 0b00000000000000000000#20 = .instr .nop ∧ decode 0b00010000000000000000#20 = .instr .tick ∧
    decode 0b00100000000000000000#20 = .instr .now ∧
    decode 0b00111111101000000100#20 = .instr (.elapsed 250#8 4#8) ∧
    decode 0b01001111101000001010#20 = .instr (.expired 250#8 10#8) ∧
    decode 0x3FFFF#20 = .instr (.elapsed 255#8 255#8) ∧ decode 0x40000#20 = .instr (.expired 0#8 0#8) := by decide

/-- E6, E7. -/
theorem test_decode_debounce :
    decode 0b01010000000000000001#20 = .instr (.pin .pressed) ∧
    decode 0b01010000000000000000#20 = .instr (.pin .released) ∧
    decode 0b01100000000000000000#20 = .instr .sclk := by decide

/-- E8 to E10. -/
theorem test_decode_poll :
    decode 0b01111100100100000001#20 = .instr (.poll 201#8 true false) ∧
    decode 0b01110000000000000010#20 = .instr (.poll 0#8 false true) ∧
    decode 0b01111111111100000011#20 = .instr (.poll 255#8 true true) := by decide

/-- E11. -/
theorem test_decode_rst : decode 0b11110000000000000001#20 = .instr (.rst .pressed) := by decide

/-- E12. -/
theorem test_decode_reserved_code :
    ([0x80000#20, 0x90000#20, 0xA1234#20, 0xE0000#20] : List OpWord).all
      (fun w => decode w == .reserved .operationCode) = true := by decide

/-- E13 to E15. -/
theorem test_decode_reserved_bits :
    ([0x10001#20, 0x20100#20, 0x60001#20, 0x00001#20, 0x50002#20, 0x50100#20, 0xF0002#20, 0xF0100#20,
      0x70004#20, 0x700FF#20, 0x7C980#20] : List OpWord).all
      (fun w => decode w == .reserved .operandBits) = true := by decide

/-- The table numbers of spec/opcode_table.json, and a number the 20-bit port cannot carry. -/
theorem test_decode_table_word :
    decodeTableWord 24 0x7C901 = some (.poll 201#8 true false) ∧ decodeTableWord 24 0x110000 = none := by decide

/-- The words of `RELEASE` under TC (95 B12). -/
theorem test_release_words :
    ((Pseudo.expand Params.tc .release).map encode) = [0x50000#20, 0x60000#20, 0x60000#20] := by decide

/-! ### Operations -/

/-- T18. -/
theorem test_nop : after (exec .nop { State.reset with wdt_kick := true, res := 9#8 })
    (fun t => t == State.reset) = true := by decide

/-- T3. -/
theorem test_tick_wraps : after (exec .tick { State.reset with tick := 255#8 }) (fun t => t.tick == 0#8) = true := by decide

/-- T4. -/
theorem test_now : after (exec .now { State.reset with tick := 44#8 })
    (fun t => t.res == 44#8 && t.tick == 44#8) = true := by decide

/-- T6, T7: the operand order. -/
theorem test_elapsed_across_wrap : after (exec (.elapsed 250#8 4#8) State.reset) (fun t => t.res == 10#8) = true := by decide
theorem test_elapsed_swapped : after (exec (.elapsed 4#8 250#8) State.reset) (fun t => t.res == 246#8) = true := by decide

/-- T12, T13. -/
theorem test_expired_at_threshold :
    after (exec (.expired 250#8 10#8) { State.reset with tick := 4#8 }) (fun t => t.res == 1#8) = true := by decide
theorem test_expired_below_threshold :
    after (exec (.expired 250#8 11#8) { State.reset with tick := 4#8 }) (fun t => t.res == 0#8) = true := by decide

/-- B3: retrigger. -/
theorem test_pin_retriggers :
    after (exec (.pin .released) { State.reset with pin := .pressed, settle_armed := true, settle_cnt := 1 })
      (fun t => t.pin == .released && t.settle_cnt == 2 && t.settle_armed) = true := by decide

/-- B4: the same level does not retrigger. -/
theorem test_pin_same_level :
    after (exec (.pin .pressed) { State.reset with pin := .pressed, settle_armed := true, settle_cnt := 1 })
      (fun t => t.settle_cnt == 1) = true := by decide

/-- B10: the press counter wraps at the expiry. -/
theorem test_sclk_expiry_wraps_counter :
    after (exec .sclk
      { State.reset with settle_armed := true, settle_cnt := 1, pin := .pressed, press_count := 255#8 })
      (fun t => t.press_count == 0#8 && t.deb_level == .pressed && !t.settle_armed && t.settle_cnt == 0) = true := by
  decide

/-- B9: a bounce counts nothing. -/
theorem test_sclk_bounce :
    after (exec .sclk
      { State.reset with settle_armed := true, settle_cnt := 1, pin := .pressed, deb_level := .pressed })
      (fun t => t.press_count == 0#8 && t.release_count == 0#8 && !t.settle_armed) = true := by decide

/-- F11: a SHORT press into OFF resets the modifier. -/
theorem test_poll_short_press_into_off :
    after (exec (.poll 0#8 false false)
      { State.reset with
        phase := .waitUp, state := .high, next := .off, modifier := .strobe, release_count := 1#8
        pwr_hold := true, drv_en := true, drv_mode := true })
      (fun t => t.modifier == .solid && t.state == .off && t.next == .low && !t.pwr_hold && !t.drv_en && !t.drv_mode &&
        t.phase == .offRel && t.wdt_kick) = true := by decide

/-- H2: the thermal check fires. -/
theorem test_poll_overheat :
    after (exec (.poll 201#8 false false)
      { State.reset with
        phase := .waitDown, state := .high, next := .off, pwr_hold := true, drv_en := true, drv_mode := true })
      (fun t => t.drv_en && !t.drv_mode && !t.pwm_en && t.blink_left == 6#3 && t.ret_phase == .waitDown &&
        t.phase == .therm && t.state == .high) = true := by decide

/-- 70 R240, the example of `RST 1`. -/
theorem test_rst_pressed :
    after (exec (.rst .pressed) { State.reset with tick := 7#8, phase := .therm, pwr_hold := true, usb_flag := true })
      (fun t => t == { State.reset with pin := .pressed }) = true := by decide

/-- A step runs the word the environment presents. -/
theorem test_step_runs_presented_word :
    after (step (State.reset.withFetchWord 24 0x10000)) (fun t => t.tick == 1#8 && t.opw_queue == []) = true := by decide

/-! ### Witnesses: the hypotheses of the statements can be met -/

/-- An idle state with the light of HIGH. -/
def brightState : State :=
  { State.reset with phase := .waitDown, state := .high, next := .off, pwr_hold := true, drv_en := true, drv_mode := true }

/-- A state in which the button is held. -/
def heldState : State := { brightState with phase := .waitUp, press_count := 1#8, seen_press := 1#8 }

/-- The state right after the thermal check fired. -/
def warningState : State := { brightState with phase := .therm, drv_mode := false, blink_left := 6#3 }

theorem witness_EncodeDecodeRoundTrip : decode 0x7FF03#20 = .instr (.poll 255#8 true true) := by decide

theorem witness_DecoderAgreesWithMatchMaskTable :
    decode 0xF0001#20 = .instr (.rst .pressed) ∧ decode 0xEFFFF#20 = .reserved .operationCode ∧
    decode 0x7FF04#20 = .reserved .operandBits := by decide

theorem witness_StepRunsDecodedWord :
    let s := { State.reset with opw_queue := [0x10000#20, 0x20000#20] }
    s.cfg.legal = true ∧ s.opw_queue = 0x10000#20 :: [0x20000#20] ∧ decode 0x10000#20 = .instr .tick := by decide

theorem witness_StepWithoutWordIsNop : State.reset.cfg.legal = true ∧ State.reset.opw_queue = [] := by decide

theorem witness_StepRefusesExactlyReservedOrIllegal :
    ({ State.reset with cfg := { Params.tc with longTicks := 128 } } : State).cfg.legal = false ∧
    (let s := { State.reset with opw_queue := [0x80000#20] }
     s.cfg.legal = true ∧ s.opw_queue = 0x80000#20 :: [] ∧ decode 0x80000#20 = .reserved .operationCode) := by decide

theorem witness_StepsRunTheWordsInOrder : ({ State.reset with tick := 9#8 } : State).cfg.legal = true := by decide

theorem witness_OperationsIgnoreLaterWords :
    exec .tick { State.reset with opw_queue := [0x20000#20] } =
      .next { State.reset with tick := 1#8, opw_queue := [0x20000#20] } := rfl

theorem witness_StepKeepsParameters :
    step { State.reset with opw_queue := [0x10000#20] } = .next { State.reset with tick := 1#8 } := rfl

theorem witness_TickAdvancesModulo256 :
    exec .tick State.reset = .next { State.reset with tick := 1#8 } ∧ (1#8 : Byte) ≠ State.reset.tick :=
  ⟨rfl, by decide⟩

theorem witness_ElapsedCountsTicks :
    (∀ level, Instr.rst level ∉ [Instr.tick, .sclk]) ∧
    execAll [.tick, .sclk] { State.reset with tick := 255#8 } = .next State.reset ∧
    exec (.elapsed 255#8 0#8) State.reset = .next { State.reset with res := 1#8 } :=
  ⟨by simp, rfl, rfl⟩

theorem witness_SclkCountsDownAndExpires :
    let s := { State.reset with settle_armed := true, settle_cnt := 1 }
    s.settle_armed = true ∧ (s.settle_armed = true → 1 ≤ s.settle_cnt) := by decide

theorem witness_HeldLevelIsCountedOnce : 1 ≤ State.reset.cfg.settleCount ∧ Level.pressed ≠ State.reset.pin := by decide

theorem witness_BurstCountsAtMostOnce :
    ([0, 1, 1] : List Nat) ≠ [] ∧ ∀ k ∈ ([0, 1, 1] : List Nat), k < State.reset.cfg.settleCount := by decide

theorem witness_CountersMoveWithDebouncedLevel :
    (∀ level, Instr.sclk ≠ .rst level) ∧
    exec .sclk { State.reset with pin := .pressed, settle_armed := true, settle_cnt := 1 } =
      .next { State.reset with pin := .pressed, deb_level := .pressed, press_count := 1#8 } :=
  ⟨by simp, rfl⟩

theorem witness_StepKeepsCountersAgree :
    CountersAgree { State.reset with deb_level := .pressed, press_count := 0#8, release_count := 255#8 } ∧
    step { State.reset with deb_level := .pressed, press_count := 0#8, release_count := 255#8 } =
      .next { State.reset with deb_level := .pressed, press_count := 0#8, release_count := 255#8 } :=
  ⟨⟨by decide, by decide⟩, rfl⟩

theorem witness_BootEntersLowOrOff : State.reset.phase = .boot ∧ State.reset.next = .low := by decide

theorem witness_IdleDutiesRunInWaitPhases :
    brightState.phase.waits ∧ ¬({ State.reset with phase := .offSettle } : State).phase.waits ∧
    ¬brightState.overheats 200#8 ∧ brightState.phase ≠ .waitUp := by decide

theorem witness_WaitDownRecordsButtonDown :
    brightState.phase = .waitDown ∧ ¬brightState.overheats 200#8 ∧
    ¬({ brightState with state := .low } : State).overheats 255#8 := by decide

theorem witness_ShortPressEntersNextState :
    ([.off, .low, .med, .high] : List PowerState).all (fun p =>
      let s := { heldState with next := p, release_count := 1#8 }
      decide (s.phase = .waitUp ∧ ¬s.overheats 200#8 ∧ s.release_count ≠ s.seen_release)) = true := by decide

theorem witness_LongPressTogglesModifierOrPowersOn :
    ([.off, .low, .med, .high] : List PowerState).all (fun p =>
      let s := { heldState with state := p, next := p.successor, tick := 10#8, down_tick := 250#8 }
      decide (s.phase = .waitUp ∧ ¬s.overheats 200#8 ∧ s.release_count = s.seen_release ∧
        s.due s.down_tick s.cfg.longTicks ∧ (s.state = .off → s.next = .low))) = true := by decide

theorem witness_PressIsClassifiedReleaseFirst :
    let s := { heldState with tick := 22#8, down_tick := 7#8 }
    s.phase = .waitUp ∧ ¬s.overheats 200#8 ∧ s.release_count = s.seen_release ∧
      ¬s.due s.down_tick s.cfg.longTicks := by decide

theorem witness_WaitRelConsumesRelease :
    let s := { brightState with phase := .waitRel }
    s.phase = .waitRel ∧ ¬s.overheats 200#8 := by decide

theorem witness_OffEntryWaitsForPinRelease : ({ State.reset with phase := .offRel } : State).phase = .offRel := by decide

theorem witness_OffSettleLatchesUsbFlag :
    let s := { State.reset with phase := .offSettle, off_ref := 40#8, tick := 43#8 }
    s.phase = .offSettle ∧ s.due s.off_ref s.cfg.offSettleTicks := by decide

theorem witness_OverheatStartsWarningSequence :
    brightState.phase.waits ∧ brightState.overheats 201#8 ∧ ¬brightState.overheats 200#8 := by decide

theorem witness_WarningSequenceStep :
    warningState.phase = .therm ∧ ¬warningState.due warningState.blink_ref 15 ∧
    (let s := { warningState with tick := 15#8 }
     s.phase = .therm ∧ s.due s.blink_ref (s.cfg.ticksPerSecond / 2) ∧ s.blink_left ≠ 0#3) ∧
    (let s := { warningState with tick := 15#8, blink_left := 0#3 }
     s.phase = .therm ∧ s.due s.blink_ref (s.cfg.ticksPerSecond / 2) ∧ s.blink_left = 0#3) := by decide

theorem witness_ReservedPhaseOnlyKicks : ({ State.reset with phase := .reserved } : State).phase = .reserved := by decide

theorem witness_PhaseTransitionsAreThoseListed :
    ∃ t, exec (.poll 0#8 false false) State.reset = .next t ∧ t.phase ≠ State.reset.phase := ⟨_, rfl, by decide⟩

theorem witness_PollIgnoresOtherOperands :
    State.reset.phase = .boot ∧ brightState.phase ≠ .boot ∧
    (warningState.phase ≠ .boot ∧ ¬warningState.phase.waits) := by decide

theorem witness_StepOutputsKickAndResult :
    ∃ t, exec .now { State.reset with tick := 44#8 } = .next t ∧ t.res = 44#8 := ⟨_, rfl, by decide⟩

theorem witness_RegistersHaveOneWriter :
    ∃ t, exec .sclk { State.reset with settle_armed := true, settle_cnt := 2 } = .next t ∧
      t.settle_armed = true ∧ t.settle_cnt = 1 := ⟨_, rfl, by decide⟩

theorem witness_UsbFlagIsOneWayLatch :
    (∃ t, exec (.poll 0#8 true false) brightState = .next t ∧ t.usb_flag = true) ∧
    (∀ level, Instr.poll 0#8 true false ≠ .rst level) ∧
    (∃ t, exec (.rst .pressed) { brightState with usb_flag := true } = .next t) :=
  ⟨⟨_, rfl, by decide⟩, by simp, ⟨_, rfl⟩⟩

theorem witness_SupplyLineFollowsLowAndOffEntry :
    (∃ t, exec (.poll 0#8 false false) { State.reset with pin := .pressed } = .next t ∧
      ({ State.reset with pin := .pressed } : State).pwr_hold = false ∧ t.pwr_hold = true) ∧
    (∃ t, exec (.poll 0#8 false false) { heldState with release_count := 1#8 } = .next t ∧
      heldState.pwr_hold = true ∧ t.pwr_hold = false) :=
  ⟨⟨_, rfl, by decide⟩, ⟨_, rfl, by decide⟩⟩

/-- The reset state meets the invariant of the sequencer. -/
theorem reset_sequencerWf : SequencerWf State.reset := by constructor <;> decide

theorem heldState_sequencerWf : SequencerWf { heldState with release_count := 1#8 } := by constructor <;> decide

theorem witness_PowerStateAdvancesOneWay :
    SequencerWf { heldState with release_count := 1#8 } ∧
    (∃ t, exec (.poll 0#8 false false) { heldState with release_count := 1#8 } = .next t ∧ t.state ≠ heldState.state) ∧
    (∀ level, Instr.poll 0#8 false false ≠ .rst level) :=
  ⟨heldState_sequencerWf, ⟨_, rfl, by decide⟩, by simp⟩

theorem witness_PressChangesStateOrModifier :
    (∃ t, exec (.poll 0#8 false false) { heldState with tick := 16#8 } = .next t ∧ t.modifier ≠ heldState.modifier) ∧
    (∃ t, exec (.poll 0#8 false false) { heldState with release_count := 1#8, modifier := .strobe } = .next t ∧
      t.modifier ≠ .strobe) ∧
    (∀ level, Instr.poll 0#8 false false ≠ .rst level) :=
  ⟨⟨_, rfl, by decide⟩, ⟨_, rfl, by decide⟩, by simp⟩

theorem witness_StepKeepsSequencerWf : SequencerWf State.reset ∧ step State.reset = .next State.reset :=
  ⟨reset_sequencerWf, rfl⟩

theorem witness_StepKeepsLightWf :
    let s := { heldState with release_count := 1#8, opw_queue := [0x70000#20] }
    SequencerWf s ∧ LightWf s ∧ ∃ t, step s = .next t ∧ t.state = .off :=
  ⟨by constructor <;> decide, by constructor <;> decide, ⟨_, rfl, by decide⟩⟩

theorem witness_TickIsUsedOnlyThroughDifferences :
    (∀ level, Instr.now ≠ .rst level) ∧ exec .now State.reset = .next State.reset := ⟨by simp, rfl⟩

theorem witness_ArbiterOrdersEvents :
    (⟨some .pressed, true, none, true, none, none⟩ : Events).reset = some .pressed ∧
    (⟨none, true, none, true, none, some .now⟩ : Events).reset = none := by decide

theorem witness_WarningSequenceTakesSevenIntervals :
    let h := warningState.cfg.ticksPerSecond / 2
    1 ≤ h ∧ h ≤ 127 ∧ warningState.phase = .therm ∧ warningState.blink_left = 6#3 ∧
    warningState.blink_ref = warningState.tick ∧ warningState.drv_en = true ∧
    (List.replicate 104 (⟨0#8, false, false⟩ : Spin)).length < 7 * h ∧
    (List.replicate 105 (⟨255#8, true, true⟩ : Spin)).length = 7 * h := by decide

end Sys2Proof.Tests
end

/-!
PROOFS. The scope of the block (00_scope): the legal ranges of the parameters, the step as the decoded operation, and the
parameters as constants of a run.
-/
namespace Sys2Proof.Machine

/-! ### The legal ranges (00_scope R7) -/

theorem tickThresholdLegal_iff (n : Nat) : tickThresholdLegal n = true ↔ 1 ≤ n ∧ n ≤ 127 := by
  simp [tickThresholdLegal]

/-- `HALF_SEC_TICKS` needs no range check of its own. -/
theorem halfSecTicks_in_range {p : Params} (h : 2 ≤ p.ticksPerSecond ∧ p.ticksPerSecond ≤ 254) :
    1 ≤ halfSecTicks p ∧ halfSecTicks p ≤ 127 := by
  unfold halfSecTicks
  omega

/-- The check of a configuration, range by range. -/
theorem legal_iff (p : Params) :
    p.legal = true ↔
      (2 ≤ p.ticksPerSecond ∧ p.ticksPerSecond ≤ 254) ∧ (1 ≤ p.longTicks ∧ p.longTicks ≤ 127) ∧
      (1 ≤ p.strobeHalfTicks ∧ p.strobeHalfTicks ≤ 127) ∧ (1 ≤ p.offSettleTicks ∧ p.offSettleTicks ≤ 127) ∧
      1 ≤ p.settleCount := by
  simp only [Params.legal, Bool.and_eq_true, decide_eq_true_eq, tickThresholdLegal_iff, and_assoc]

/-- Settles O11: the half-second interval follows from `TICKS_PER_SECOND`, the rest is the check itself. -/
theorem legalConfigurationRanges : Obligations.LegalConfigurationRanges := by
  intro p
  rw [legal_iff]
  constructor
  · rintro ⟨hsec, hrest⟩
    exact ⟨hsec, halfSecTicks_in_range hsec, hrest⟩
  · rintro ⟨hsec, -, hrest⟩
    exact ⟨hsec, hrest⟩

/-! ### The step (00_scope R13) -/

/-- A legal step whose port word decodes runs that operation, with the word taken off the port. -/
theorem step_eq_exec {s : State} {i : Instr} (hl : s.cfg.legal = true) (hd : decode s.portWord = .instr i) :
    step s = exec i s.takeWord := by
  simp only [step, hl, hd, if_true]

/-- Settles O8: the port carries the head of the list, and taking it leaves the tail. -/
theorem stepRunsDecodedWord : Obligations.StepRunsDecodedWord := by
  intro s w rest i hl hq hd
  have hport : s.portWord = w := by rw [State.portWord, hq, List.headD_cons]
  have htake : s.takeWord = { s with opw_queue := rest } := by rw [State.takeWord, hq, List.tail_cons]
  rw [step_eq_exec hl (hport ▸ hd), htake]

/-! ### The parameters of a run (00_scope R7) -/

@[simp] theorem expire_cfg (s : State) : (expire s).cfg = s.cfg := by
  obtain ⟨-, h⟩ | ⟨-, -, h⟩ | ⟨-, -, h⟩ := expire_cases s <;> rw [h]

/-- No case of a POLL writes a parameter: each is a record update of other fields. -/
theorem PollCase.cfg_eq {temp : Byte} {chg usbboot : Bool} {s t : State} (h : PollCase temp chg usbboot s t) :
    t.cfg = s.cfg := by
  cases h <;> rfl

@[simp] theorem pollPhase_cfg (temp : Byte) (chg usbboot : Bool) (s : State) :
    (pollPhase temp chg usbboot s).cfg = s.cfg :=
  (pollPhase_cases temp chg usbboot s).cfg_eq

/-- No operation writes a parameter. -/
@[simp] theorem resultOf_cfg (i : Instr) (s : State) : (resultOf i s).cfg = s.cfg := by
  cases i with
  | nop | tick | now | elapsed | expired | rst => rfl
  | pin level =>
    rw [resultOf, withOutputs_cfg]
    split
    · rfl
    · rfl
  | sclk =>
    rw [resultOf, withOutputs_cfg]
    obtain ⟨-, h⟩ | ⟨-, -, h⟩ | ⟨-, -, h⟩ := sclk_cases s
    · rw [h]
    · rw [h]
    · rw [h, expire_cfg]
  | poll temp chg usbboot => exact pollPhase_cfg temp chg usbboot s

/-- Settles O15: a step is the result of one operation, and neither it nor taking the word writes a parameter. -/
theorem stepKeepsParameters : Obligations.StepKeepsParameters := by
  intro s t h
  obtain ⟨-, i, -, rfl⟩ := step_next_cases h
  rw [resultOf_cfg, takeWord_cfg]

end Sys2Proof.Machine

/-!
PROOFS. The state (10_state): the invariant of the sequencer (R52), that of the button counters (R51), and the state after
reset (R53).
-/
namespace Sys2Proof.Machine

/-! ### The state after reset (10_state R53) -/

theorem resetRegisters_countersAgree (level : Level) (s : State) : CountersAgree (resetRegisters level s) where
  pressed := by simp
  released := by simp

theorem resetRegisters_sequencerWf (level : Level) (s : State) : SequencerWf (resetRegisters level s) := by
  constructor <;> simp [Phase.waits]

theorem resetRegisters_lightWf (level : Level) (s : State) : LightWf (resetRegisters level s) := by
  constructor <;> simp [lightOf]

/-- Settles O45: both sides list the reset values register by register. -/
theorem stateResetIsAfterRstReleased : Obligations.StateResetIsAfterRstReleased :=
  ⟨fun _ => rfl, rfl, rfl⟩

/-- Settles O46: the state named is what RST leaves of `State.reset` under the parameters. -/
theorem resetMeetsInvariants : Obligations.ResetMeetsInvariants := by
  intro level p
  have h : ({ State.reset with pin := level, cfg := p } : State) =
      resetRegisters level { State.reset with cfg := p } := rfl
  simp only [h]
  exact ⟨resetRegisters_countersAgree .., resetRegisters_sequencerWf .., resetRegisters_lightWf ..⟩

/-! ### The invariant of the sequencer (10_state R52) -/

section SequencerWf
variable {s t : State}

theorem SequencerWf.withOutputs (h : SequencerWf s) (kick : Bool) (res : Byte) :
    SequencerWf (s.withOutputs kick res) := { h with }

theorem SequencerWf.takeWord (h : SequencerWf s) : SequencerWf s.takeWord := { h with }

theorem SequencerWf.duties (h : SequencerWf s) (chg : Bool) : SequencerWf (s.duties chg) := { h with }

/-- A wait phase asks nothing of the other registers. -/
theorem SequencerWf.setWaits (h : SequencerWf s) {p : Phase} (hp : p.waits) : SequencerWf { s with phase := p } := by
  obtain rfl | rfl | rfl := (waits_iff p).mp hp <;>
    exact { h with phase_legal := by simp, off_entry := by simp, before_boot := by simp, warning := by simp }

/-- `Enter` of the next state, outside OFF, from a state that holds the supply unless it is OFF (42 R160). -/
theorem SequencerWf.enterNext (h : SequencerWf s) (hn : s.next ≠ .off) {p : Phase} (hp : p.waits) :
    SequencerWf { enter s.next s with phase := p } := by
  have held : s.next ≠ .low → s.pwr_hold = true := fun hl => h.supply.mpr fun ho => hl (h.off_next ho)
  have entered : SequencerWf { enter s.next s with phase := .waitDown } :=
    { h with
      off_next := fun ho => absurd ho hn
      off_modifier := fun ho => absurd ho hn
      med_next := fun hm => congrArg PowerState.successor hm
      high_next := fun hh => congrArg PowerState.successor hh
      low_next := fun hl => .inl (congrArg PowerState.successor hl)
      phase_legal := by simp
      off_entry := by simp
      before_boot := by simp
      warning := by simp
      supply := by
        cases hs : s.next with
        | off => exact absurd hs hn
        | low => simp [PowerState.supply]
        | med | high => simp [PowerState.supply, held (by simp [hs])] }
  exact entered.setWaits hp

/-- `Enter(OFF)`, which begins OFF entry, under a SOLID modifier (42 R160, R170). -/
theorem SequencerWf.enterOff (h : SequencerWf s) (hm : s.modifier = .solid) :
    SequencerWf { enter .off s with phase := .offRel } :=
  { h with
    off_next := fun _ => rfl
    off_modifier := fun _ => hm
    med_next := by simp
    high_next := by simp
    low_next := by simp
    phase_legal := by simp
    off_entry := fun _ => rfl
    before_boot := fun _ => rfl
    warning := by simp
    supply := by simp [PowerState.supply] }

/-- The entry of the override from a wait phase of a bright state (43 R192). -/
theorem SequencerWf.thermTrigger (h : SequencerWf s) (hw : s.phase.waits) (hb : s.isBright) :
    SequencerWf (thermTrigger s) :=
  { h with
    phase_legal := by simp
    blinks := Nat.le_refl _
    off_entry := by simp
    before_boot := by simp
    warning := fun _ => hb
    returns := hw }

/-- A toggle of the warning sequence, of which at least one is left (43 R194). -/
theorem SequencerWf.thermToggle (h : SequencerWf s) (hl : s.blink_left ≠ 0#3) : SequencerWf (thermToggle s) :=
  { h with
    blinks := by
      have := h.blinks
      rw [thermToggle_blink_left]
      bv_omega }

/-- The return of the override: the state was bright, so the supply is held (43 R195). -/
theorem SequencerWf.thermFinish (h : SequencerWf s) (hp : s.phase = .therm) : SequencerWf (thermFinish s) := by
  have bright : s.state ≠ .off := by
    rcases (isBright_iff s).mp (h.warning hp) with hs | hs <;> simp [hs]
  have returned : SequencerWf { Machine.thermFinish s with phase := .waitDown } :=
    { h with
      off_next := by simp
      off_modifier := by simp
      med_next := by simp
      high_next := by simp
      low_next := fun _ => .inr rfl
      phase_legal := by simp
      off_entry := by simp
      before_boot := by simp
      warning := by simp
      supply := by simpa using h.supply.mpr bright }
  exact returned.setWaits h.returns

/-- Every case of a POLL keeps the invariant (42 R141). -/
theorem PollCase.sequencerWf {temp : Byte} {chg usbboot : Bool} (h : PollCase temp chg usbboot s t)
    (hs : SequencerWf s) : SequencerWf t := by
  have idled := hs.duties chg
  cases h with
  | bootHeld hp =>
    have flagged : SequencerWf { s with usb_flag := s.usb_flag || usbboot } := { hs with }
    exact flagged.enterNext (by simp [hs.off_next (hs.before_boot hp)]) rfl
  | bootReleased hp =>
    have flagged : SequencerWf { s with usb_flag := s.usb_flag || usbboot } := { hs with }
    exact flagged.enterOff (hs.off_modifier (hs.before_boot hp))
  | overheat hp ho => exact idled.thermTrigger hp ((isBright_iff s).mpr ((overheats_iff s temp).mp ho).1)
  | downQuiet | held | relQuiet => exact idled
  | down => exact { idled.setWaits (p := .waitUp) rfl with }
  | shortOff =>
    have solid : SequencerWf { s.duties chg with seen_release := s.release_count, modifier := .solid } :=
      { idled with off_modifier := fun _ => rfl }
    exact solid.enterOff rfl
  | shortOn _ _ _ hn =>
    have seen : SequencerWf { s.duties chg with seen_release := s.release_count } := { idled with }
    exact seen.enterNext hn rfl
  | longOff _ _ _ _ ho => exact idled.enterNext (by simp [State.duties, hs.off_next ho]) rfl
  | longStrobe _ _ _ _ ho => exact { idled.setWaits (p := .waitRel) rfl with off_modifier := fun h => absurd h ho }
  | longSolid => exact { idled.setWaits (p := .waitRel) rfl with off_modifier := fun _ => rfl }
  | rel => exact { idled.setWaits (p := .waitDown) rfl with }
  | offReleased hp =>
    exact { hs with
      phase_legal := by simp
      off_entry := fun _ => hs.off_entry (.inl hp)
      before_boot := by simp
      warning := by simp }
  | settled => exact { hs.setWaits (p := .waitDown) rfl with }
  | warningToggles _ _ hl => exact hs.thermToggle hl
  | warningEnds hp => exact hs.thermFinish hp
  | offHeld | settling | warningWaits | reservedPhase => exact hs

theorem SequencerWf.arm (h : SequencerWf s) (hc : 1 ≤ s.cfg.settleCount) : SequencerWf (arm s) :=
  { h with
    disarmed := by simp
    armed := fun _ => ⟨hc, Nat.le_refl _⟩ }

/-- The countdown of an armed settle timer that does not reach 0 (41 R125). -/
theorem SequencerWf.countDown (h : SequencerWf s) (ha : s.settle_armed = true)
    (h0 : countDown s.cfg s.settle_cnt ≠ 0) : SequencerWf { s with settle_cnt := countDown s.cfg s.settle_cnt } := by
  obtain ⟨hpos, hle⟩ := h.armed ha
  have below : Machine.countDown s.cfg s.settle_cnt ≤ s.cfg.settleCount := by
    rw [countDown_pos _ hpos]
    omega
  exact { h with
    disarmed := fun hd => absurd (ha.symm.trans hd) (by simp)
    armed := fun _ => ⟨Nat.one_le_iff_ne_zero.mpr h0, below⟩ }

/-- The expiry leaves the settle timer disarmed at 0 and writes no register of the sequencer (41 R126). -/
theorem SequencerWf.expire (h : SequencerWf s) : SequencerWf (expire { s with settle_cnt := 0 }) := by
  obtain ⟨-, e⟩ | ⟨-, -, e⟩ | ⟨-, -, e⟩ := expire_cases { s with settle_cnt := 0 } <;>
    exact e ▸ { h with disarmed := fun _ => rfl, armed := by simp }

/-- Every operation keeps the invariant, when a settle delay is at least one SCLK (00_scope R7). -/
theorem SequencerWf.resultOf (h : SequencerWf s) (hc : 1 ≤ s.cfg.settleCount) (i : Instr) :
    SequencerWf (resultOf i s) := by
  cases i with
  | nop | now | elapsed | expired => exact h.withOutputs ..
  | tick => exact { h with }
  | pin level =>
    refine SequencerWf.withOutputs ?_ ..
    split
    · exact SequencerWf.arm { h with } hc
    · exact h
  | sclk =>
    refine SequencerWf.withOutputs ?_ ..
    obtain ⟨-, e⟩ | ⟨ha, h0, e⟩ | ⟨-, -, e⟩ := sclk_cases s <;> rw [e]
    · exact h
    · exact h.countDown ha h0
    · exact h.expire
  | poll temp chg usbboot => exact ((pollPhase_cases temp chg usbboot s).sequencerWf h).withOutputs ..
  | rst level => exact (resetRegisters_sequencerWf level s).withOutputs ..

end SequencerWf

/-- Settles O54: a step takes a word off the port and runs one operation under a legal configuration. -/
theorem stepKeepsSequencerWf : Obligations.StepKeepsSequencerWf := by
  intro s t h hstep
  obtain ⟨hl, i, -, rfl⟩ := step_next_cases hstep
  obtain ⟨-, -, -, -, hc⟩ := (legal_iff s.cfg).mp hl
  exact h.takeWord.resultOf hc i

/-! ### The invariant of the button counters (10_state R51) -/

section CountersAgree
variable {s t : State}

/-- The invariant reads registers of the debounce sub-block only. -/
theorem CountersAgree.of_sameDebounce (h : CountersAgree s) (hd : SameDebounce s t) : CountersAgree t where
  pressed := by
    rw [hd.deb_level, hd.press_count, hd.release_count]
    exact h.pressed
  released := by
    rw [hd.deb_level, hd.press_count, hd.release_count]
    exact h.released

/-- No case of a POLL writes a register of the debounce sub-block (42 R140). -/
theorem PollCase.sameDebounce {temp : Byte} {chg usbboot : Bool} (h : PollCase temp chg usbboot s t) :
    SameDebounce s t := by
  cases h <;> exact ⟨rfl, rfl, rfl, rfl, rfl, rfl⟩

/-- The expiry moves a counter exactly with the debounced level (41 R126, R127). -/
theorem CountersAgree.expire (h : CountersAgree s) : CountersAgree (expire s) := by
  obtain ⟨-, e⟩ | ⟨-, hd, e⟩ | ⟨-, hd, e⟩ := expire_cases s <;> rw [e]
  · exact { h with }
  · have level : s.press_count = s.release_count := h.released hd
    exact { pressed := fun _ => by bv_omega, released := by simp }
  · have ahead : s.press_count - s.release_count = 1#8 := h.pressed hd
    exact { pressed := by simp, released := fun _ => by bv_omega }

/-- Every operation keeps the invariant: only the expiry and RST write what it reads. -/
theorem CountersAgree.resultOf (h : CountersAgree s) (i : Instr) : CountersAgree (resultOf i s) := by
  cases i with
  | nop | tick | now | elapsed | expired => exact { h with }
  | pin level =>
    rw [Machine.resultOf]
    split <;> exact { h with }
  | sclk =>
    rw [Machine.resultOf]
    obtain ⟨-, e⟩ | ⟨-, -, e⟩ | ⟨-, -, e⟩ := sclk_cases s <;> rw [e]
    · exact { h with }
    · exact { h with }
    · have counted : CountersAgree { s with settle_cnt := 0 } := { h with }
      exact { counted.expire with }
  | poll temp chg usbboot =>
    exact { h.of_sameDebounce (pollPhase_cases temp chg usbboot s).sameDebounce with }
  | rst level => exact { resetRegisters_countersAgree level s with }

end CountersAgree

/-- Settles O28: a step takes a word off the port, which the invariant does not read, and runs one operation. -/
theorem stepKeepsCountersAgree : Obligations.StepKeepsCountersAgree := by
  intro s t h hstep
  obtain ⟨-, i, -, rfl⟩ := step_next_cases hstep
  have taken : CountersAgree s.takeWord := { h with }
  exact taken.resultOf i
end Sys2Proof.Machine

/-!
PROOFS. The state (10_state): the step outputs (R46, R47), the USB flag (R35), the supply line (R39), and the Tick as a
clock that only NOW shows (R53).
-/
namespace Sys2Proof.Machine

/-! ### The step outputs (10_state R46, R47) -/

/-- `wdt_kick` is 1 exactly in a POLL. -/
theorem resultOf_wdt_kick (i : Instr) (s : State) :
    (resultOf i s).wdt_kick = true ↔ ∃ temp chg usbboot, i = .poll temp chg usbboot := by
  cases i <;> simp [resultOf]

/-- Settles O48: each operation ends by writing the two outputs, and the comparison of EXPIRED is `due`. -/
theorem stepOutputsKickAndResult : Obligations.StepOutputsKickAndResult := by
  intro i s t h
  obtain rfl := exec_next_iff.mp h
  refine ⟨resultOf_wdt_kick i s, ?_⟩
  cases i with
  | expired ref thr => exact congrArg zext8 (expired_eq_due s ref thr.toNat)
  | _ => rfl

/-! ### The one writer of the sequencer and of the outputs (20 R65) -/

theorem expire_frame (s : State) : SameSequencer s (expire s) ∧ SameOutputs s (expire s) := by
  obtain ⟨-, h⟩ | ⟨-, -, h⟩ | ⟨-, -, h⟩ := expire_cases s <;> rw [h] <;>
    exact ⟨by constructor <;> rfl, by constructor <;> rfl⟩

/-- The operations other than POLL and RST write no register of the sequencer and no output of the block. -/
theorem resultOf_frame {i : Instr} (hp : ∀ temp chg usbboot, i ≠ .poll temp chg usbboot)
    (hr : ∀ level, i ≠ .rst level) (s : State) : SameSequencer s (resultOf i s) ∧ SameOutputs s (resultOf i s) := by
  cases i with
  | nop | tick | now | elapsed | expired => exact ⟨by constructor <;> rfl, by constructor <;> rfl⟩
  | pin level =>
    rw [resultOf]
    split <;> exact ⟨by constructor <;> rfl, by constructor <;> rfl⟩
  | sclk =>
    rw [resultOf]
    obtain ⟨-, h⟩ | ⟨-, -, h⟩ | ⟨-, -, h⟩ := sclk_cases s <;> rw [h]
    · exact ⟨by constructor <;> rfl, by constructor <;> rfl⟩
    · exact ⟨by constructor <;> rfl, by constructor <;> rfl⟩
    · obtain ⟨hseq, hout⟩ := expire_frame { s with settle_cnt := 0 }
      exact ⟨{ hseq with }, { hout with }⟩
  | poll temp chg usbboot => exact absurd rfl (hp temp chg usbboot)
  | rst level => exact absurd rfl (hr level)

/-! ### The supply line (10_state R39) -/

/-- The supply line rises only into LOW and drops only into OFF, as `Enter` leaves them. -/
structure SupplyMove (s t : State) : Prop where
  raised : s.pwr_hold = false → t.pwr_hold = true → t.state = .low ∧ t.next = .med
  dropped : s.pwr_hold = true → t.pwr_hold = false → t.state = .off ∧ t.next = .low

theorem SupplyMove.of_kept {s t : State} (h : t.pwr_hold = s.pwr_hold) : SupplyMove s t where
  raised := by simp_all
  dropped := by simp_all

/-- `Enter` moves the supply line as the state entered says (42 R160). -/
theorem supplyMove_enter (p : PowerState) (s : State) : SupplyMove s (enter p s) := by
  cases p with
  | off => exact ⟨by simp [PowerState.supply], fun _ _ => ⟨rfl, rfl⟩⟩
  | low => exact ⟨fun _ _ => ⟨rfl, rfl⟩, by simp [PowerState.supply]⟩
  | med | high => exact .of_kept rfl

/-- A POLL moves the supply line by `Enter` only. -/
theorem PollCase.supplyMove {temp : Byte} {chg usbboot : Bool} {s t : State} (h : PollCase temp chg usbboot s t) :
    SupplyMove s t := by
  cases h with
  | bootHeld | shortOn | longOff => exact { supplyMove_enter s.next s with }
  | bootReleased | shortOff => exact { supplyMove_enter .off s with }
  | _ => exact .of_kept rfl

theorem resultOf_supplyMove (i : Instr) (s : State) : SupplyMove s (resultOf i s) := by
  cases i with
  | poll temp chg usbboot => exact { (pollPhase_cases temp chg usbboot s).supplyMove with }
  | rst level => exact ⟨by simp [resultOf], fun _ _ => ⟨rfl, rfl⟩⟩
  | _ => exact .of_kept (resultOf_frame (by simp) (by simp) s).2.pwr_hold

/-- Settles O51: every operation moves the supply line as `SupplyMove` says. -/
theorem supplyLineFollowsLowAndOffEntry : Obligations.SupplyLineFollowsLowAndOffEntry := by
  intro i s t h
  obtain rfl := exec_next_iff.mp h
  obtain ⟨raised, dropped⟩ := resultOf_supplyMove i s
  exact ⟨raised, dropped⟩

/-! ### The setters of the USB flag (10_state R35) -/

/-- One of the three setters fires in this operation: `usbboot` at boot, `chg` in a wait phase, the end of OFF entry. -/
def latchesUsb (s : State) : Instr → Bool
  | .poll _ chg usbboot =>
    (decide (s.phase = .boot) && usbboot) || (s.phase.waits && chg) ||
      (decide (s.phase = .offSettle) && s.due s.off_ref s.cfg.offSettleTicks)
  | _ => false

/-- The setters one by one. -/
theorem latchesUsb_iff {s : State} {i : Instr} :
    latchesUsb s i = true ↔ ∃ temp chg usbboot, i = .poll temp chg usbboot ∧
      ((s.phase = .boot ∧ usbboot = true) ∨ (s.phase.waits ∧ chg = true) ∨
        (s.phase = .offSettle ∧ s.due s.off_ref s.cfg.offSettleTicks)) := by
  cases i with
  | poll temp chg usbboot =>
    rw [latchesUsb, Bool.or_eq_true, Bool.or_eq_true, or_assoc]
    simp only [Bool.and_eq_true, decide_eq_true_eq]
    constructor
    · exact fun h => ⟨temp, chg, usbboot, rfl, h⟩
    · rintro ⟨_, _, _, ⟨⟩, h⟩
      exact h
  | _ => simp [latchesUsb]

/-- In a wait phase `chg` is the one setter. -/
theorem latchesUsb_of_waits {s : State} (h : s.phase.waits) (temp : Byte) (chg usbboot : Bool) :
    latchesUsb s (.poll temp chg usbboot) = chg := by
  obtain hp | hp | hp := (waits_iff _).mp h <;> simp [latchesUsb, hp, Phase.waits]

/-- A POLL sets the flag by the setter of its phase. -/
theorem PollCase.usb_flag_eq {temp : Byte} {chg usbboot : Bool} {s t : State} (h : PollCase temp chg usbboot s t) :
    t.usb_flag = (s.usb_flag || latchesUsb s (.poll temp chg usbboot)) := by
  cases h with
  | overheat hp => rw [latchesUsb_of_waits hp]; rfl
  | downQuiet hp | down hp | shortOff hp | shortOn hp | longOff hp | longStrobe hp | longSolid hp | held hp
  | relQuiet hp | rel hp => rw [latchesUsb_of_waits (by rw [hp]; rfl)]; rfl
  | settling hp hd | settled hp hd => simp [latchesUsb, hp, hd, Phase.waits]
  | bootHeld hp | bootReleased hp | offHeld hp | offReleased hp | warningWaits hp | warningToggles hp
  | warningEnds hp | reservedPhase hp => simp [latchesUsb, hp, Phase.waits]

theorem resultOf_usb_flag {i : Instr} (hi : ∀ level, i ≠ .rst level) (s : State) :
    (resultOf i s).usb_flag = (s.usb_flag || latchesUsb s i) := by
  cases i with
  | poll temp chg usbboot => exact (pollPhase_cases temp chg usbboot s).usb_flag_eq
  | rst level => exact absurd rfl (hi level)
  | _ =>
    obtain ⟨same, -⟩ := resultOf_frame (by simp) hi s
    simp [same.usb_flag, latchesUsb]

/-! ### What the rules cannot tell apart (10_state R35, R53) -/

/-- The state with `d` added to its tick values and the USB flag at `f`: apart from NOW and the setters of the flag, every
operation commutes with it, which is R35 for `d = 0` and R53 for the flag kept. -/
def State.disguise (d : Byte) (f : Bool) (s : State) : State := { s.shiftTicks d with usb_flag := f }

section Disguise
variable (d : Byte) (f : Bool) (s : State)

@[simp] theorem disguise_tick : (s.disguise d f).tick = s.tick + d := rfl
@[simp] theorem disguise_down_tick : (s.disguise d f).down_tick = s.down_tick + d := rfl
@[simp] theorem disguise_off_ref : (s.disguise d f).off_ref = s.off_ref + d := rfl
@[simp] theorem disguise_strobe_ref : (s.disguise d f).strobe_ref = s.strobe_ref + d := rfl
@[simp] theorem disguise_blink_ref : (s.disguise d f).blink_ref = s.blink_ref + d := rfl
@[simp] theorem disguise_phase : (s.disguise d f).phase = s.phase := rfl
@[simp] theorem disguise_pin : (s.disguise d f).pin = s.pin := rfl
@[simp] theorem disguise_cfg : (s.disguise d f).cfg = s.cfg := rfl

theorem disguise_zero : s.disguise 0#8 f = { s with usb_flag := f } := by simp [State.disguise, State.shiftTicks]

theorem disguise_ite (c : Prop) [Decidable c] (s t : State) :
    (if c then s else t).disguise d f = if c then s.disguise d f else t.disguise d f := apply_ite _ _ _ _

/-- A duration does not see the common shift of its ends. -/
@[simp] theorem elapsed_add (ref until_ : Byte) : elapsed (ref + d) (until_ + d) = elapsed ref until_ := by
  unfold elapsed
  bv_omega

@[simp] theorem expired_disguise (ref : Byte) (n : Nat) : expired (s.disguise d f) (ref + d) n = expired s ref n := by
  simp [expired]

theorem expire_disguise : expire (s.disguise d f) = (expire s).disguise d f := by
  unfold expire countEdge
  cases hp : s.pin <;> cases hd : s.deb_level <;> simp [hp, hd, State.disguise, State.shiftTicks]

theorem settleStep_disguise : settleStep (s.disguise d f) = (settleStep s).disguise d f := by
  simp only [settleStep, disguise_ite, ← expire_disguise]
  rfl

theorem pinChange_disguise (level : Level) :
    (if level ≠ (s.disguise d f).pin then arm { s.disguise d f with pin := level } else s.disguise d f) =
      (if level ≠ s.pin then arm { s with pin := level } else s).disguise d f := by
  rw [disguise_ite]
  rfl

/-- The registers after SCLK, as `sclk_cases` names them. -/
theorem settlePulse_disguise :
    (if (s.disguise d f).settle_armed then settleStep (s.disguise d f) else s.disguise d f) =
      (if s.settle_armed then settleStep s else s).disguise d f := by
  rw [disguise_ite, settleStep_disguise]
  rfl

theorem thermStep_disguise : thermStep (s.disguise d f) = (thermStep s).disguise d f := by
  simp only [thermStep, disguise_ite, disguise_blink_ref, expired_disguise, disguise_cfg]
  rfl

theorem boot_disguise (usbboot : Bool) :
    boot usbboot (s.disguise d f) = (boot usbboot s).disguise d (f || usbboot) := by
  unfold boot
  cases hp : s.pin <;> simp only [disguise_pin, hp] <;> rfl

theorem idleChg_disguise (chg : Bool) : idleChg chg (s.disguise d f) = (idleChg chg s).disguise d (f || chg) := by
  cases chg with
  | false => rw [Bool.or_false]; rfl
  | true => rw [Bool.or_true]; rfl

theorem idleStrobe_disguise : idleStrobe (s.disguise d f) = (idleStrobe s).disguise d f := by
  simp only [idleStrobe, strobeToggle, disguise_ite, disguise_strobe_ref, expired_disguise, disguise_cfg]
  rfl

theorem thermCheck_disguise (temp : Byte) : thermCheck temp (s.disguise d f) = (thermCheck temp s).disguise d f := by
  simp only [thermCheck, disguise_ite]
  rfl

theorem waitDown_disguise : waitDown (s.disguise d f) = (waitDown s).disguise d f := by
  simp only [waitDown, disguise_ite]
  rfl

theorem shortAction_disguise : shortAction (s.disguise d f) = (shortAction s).disguise d f := by
  unfold shortAction
  by_cases h : s.next = .off <;> simp [h, State.disguise, State.shiftTicks]

theorem longAction_disguise : longAction (s.disguise d f) = (longAction s).disguise d f := by
  unfold longAction toggleModifier
  by_cases h : s.state = .off
  · simp [h, State.disguise, State.shiftTicks]
  · cases hm : s.modifier <;> simp [h, hm, State.disguise, State.shiftTicks, Modifier.flip]

theorem waitUp_disguise : waitUp (s.disguise d f) = (waitUp s).disguise d f := by
  simp only [waitUp, disguise_ite, ← shortAction_disguise, ← longAction_disguise, disguise_down_tick,
    expired_disguise, disguise_cfg]
  rfl

theorem waitRel_disguise : waitRel (s.disguise d f) = (waitRel s).disguise d f := by
  simp only [waitRel, disguise_ite]
  rfl

theorem offRel_disguise : offRel (s.disguise d f) = (offRel s).disguise d f := by
  simp only [offRel, disguise_ite]
  rfl

theorem offSettle_disguise :
    offSettle (s.disguise d f) = (offSettle s).disguise d (f || s.due s.off_ref s.cfg.offSettleTicks) := by
  simp only [offSettle, disguise_off_ref, expired_disguise, disguise_cfg, ← expired_eq_due]
  cases expired s s.off_ref s.cfg.offSettleTicks with
  | false => rw [Bool.or_false]; rfl
  | true => rw [Bool.or_true]; rfl

theorem idle_disguise (temp : Byte) (chg : Bool) :
    idle temp chg (s.disguise d f) = (idle temp chg s).disguise d (f || chg) := by
  rw [idle, idleChg_disguise, idleStrobe_disguise, thermCheck_disguise, idle]

theorem spinWait_disguise (temp : Byte) (chg : Bool) {test : State → State}
    (ht : ∀ (f : Bool) (s : State), test (s.disguise d f) = (test s).disguise d f) :
    spinWait temp chg test (s.disguise d f) = (spinWait temp chg test s).disguise d (f || chg) := by
  simp only [spinWait, idle_disguise, disguise_phase, disguise_ite, ht]

/-- A POLL of the disguised state is the disguise of the POLL, with the flag latched by the same setters (42 R140). -/
theorem pollPhase_disguise (temp : Byte) (chg usbboot : Bool) :
    pollPhase temp chg usbboot (s.disguise d f) =
      (pollPhase temp chg usbboot s).disguise d (f || latchesUsb s (.poll temp chg usbboot)) := by
  cases hp : s.phase with
  | boot => simp [pollPhase, latchesUsb, Phase.waits, hp, boot_disguise]
  | waitDown => simp [pollPhase, latchesUsb, Phase.waits, hp, spinWait_disguise, waitDown_disguise]
  | waitUp => simp [pollPhase, latchesUsb, Phase.waits, hp, spinWait_disguise, waitUp_disguise]
  | waitRel => simp [pollPhase, latchesUsb, Phase.waits, hp, spinWait_disguise, waitRel_disguise]
  | offRel => simp [pollPhase, latchesUsb, Phase.waits, hp, offRel_disguise]
  | offSettle => simp [pollPhase, latchesUsb, Phase.waits, hp, offSettle_disguise]
  | therm => simp [pollPhase, latchesUsb, Phase.waits, hp, thermStep_disguise]
  | reserved => simp [pollPhase, latchesUsb, Phase.waits, hp]

end Disguise

/-- An operation of the disguised state is the disguise of the operation, but for the result of NOW. -/
theorem resultOf_disguise (d : Byte) (f : Bool) {i : Instr} (hi : ∀ level, i ≠ .rst level) (s : State) :
    resultOf (shiftOperands d i) (s.disguise d f) =
      { (resultOf i s).disguise d (f || latchesUsb s i) with
        res := if i = .now then (resultOf i s).res + d else (resultOf i s).res } := by
  cases i with
  | nop | now =>
    simp only [latchesUsb, Bool.or_false]
    rfl
  | tick =>
    have shifted : s.tick + d + 1#8 = s.tick + 1#8 + d := by bv_omega
    simp only [latchesUsb, Bool.or_false, shiftOperands, resultOf, disguise_tick, shifted]
    rfl
  | elapsed ref until_ =>
    simp only [latchesUsb, Bool.or_false, shiftOperands, resultOf, elapsed_add]
    rfl
  | expired ref thr =>
    simp only [latchesUsb, Bool.or_false, shiftOperands, resultOf, expired_disguise]
    rfl
  | pin level =>
    rw [shiftOperands, resultOf, pinChange_disguise, show latchesUsb s (.pin level) = false from rfl, Bool.or_false]
    rfl
  | sclk =>
    rw [shiftOperands, resultOf, settlePulse_disguise, show latchesUsb s .sclk = false from rfl, Bool.or_false]
    rfl
  | poll temp chg usbboot =>
    rw [shiftOperands, resultOf, pollPhase_disguise]
    rfl
  | rst level => exact absurd rfl (hi level)

theorem shiftOperands_zero (i : Instr) : shiftOperands 0#8 i = i := by
  cases i <;> simp [shiftOperands]

/-- The flag alone is a disguise that shifts no tick. -/
theorem resultOf_setFlag (f : Bool) {i : Instr} (hi : ∀ level, i ≠ .rst level) (s : State) :
    resultOf i { s with usb_flag := f } = { resultOf i s with usb_flag := f || latchesUsb s i } := by
  have h := resultOf_disguise 0#8 f hi s
  rw [shiftOperands_zero, disguise_zero, disguise_zero] at h
  simpa using h

/-- Settles O56: the shift is the disguise that keeps the flag. -/
theorem tickIsUsedOnlyThroughDifferences : Obligations.TickIsUsedOnlyThroughDifferences := by
  intro d i s t hi h
  obtain rfl := exec_next_iff.mp h
  have flag : (resultOf i s).shiftTicks d = (resultOf i s).disguise d (s.usb_flag || latchesUsb s i) := by
    rw [← resultOf_usb_flag hi]
    rfl
  rw [exec_next_iff, show s.shiftTicks d = s.disguise d s.usb_flag from rfl, resultOf_disguise d _ hi, flag]
  split <;> rfl

/-- Settles O50: the setters are those of `latchesUsb`, RST clears the flag, and the rest of an operation's result is the
same whatever the flag was. -/
theorem usbFlagIsOneWayLatch : Obligations.UsbFlagIsOneWayLatch := by
  refine ⟨fun i s t h hi => ?_, fun level s t h => ?_, fun i f s t h => ?_⟩ <;> obtain rfl := exec_next_iff.mp h
  · rw [resultOf_usb_flag hi, Bool.or_eq_true, latchesUsb_iff]
  · rfl
  · by_cases hi : ∃ level, i = .rst level
    · obtain ⟨level, rfl⟩ := hi
      exact ⟨false, rfl⟩
    · exact ⟨_, exec_next_iff.mpr (resultOf_setFlag f (not_exists.mp hi) s).symm⟩

end Sys2Proof.Machine

/-!
PROOFS. The memory model (20_memory): a program as its operations in order (R69), the words to come as something no
operation reads (R69, R73), and the single writer of each register (R65).
-/
namespace Sys2Proof.Machine

/-! ### The cases of a POLL decide its result (42 R141) -/

section PollCase
variable {temp : Byte} {chg : Bool} {s t : State}

theorem pollPhase_waitDown (usbboot : Bool) (hp : s.phase = .waitDown) (hc : ¬s.overheats temp) :
    pollPhase temp chg usbboot s = waitDown (s.duties chg) := by
  simp only [pollPhase, hp, spinWait_cool chg _ hc, idleStrobe_idleChg_duties]

theorem pollPhase_waitUp (usbboot : Bool) (hp : s.phase = .waitUp) (hc : ¬s.overheats temp) :
    pollPhase temp chg usbboot s = waitUp (s.duties chg) := by
  simp only [pollPhase, hp, spinWait_cool chg _ hc, idleStrobe_idleChg_duties]

theorem pollPhase_waitRel (usbboot : Bool) (hp : s.phase = .waitRel) (hc : ¬s.overheats temp) :
    pollPhase temp chg usbboot s = waitRel (s.duties chg) := by
  simp only [pollPhase, hp, spinWait_cool chg _ hc, idleStrobe_idleChg_duties]

/-- The cases exclude each other: the state a case names is the one the POLL leads to. -/
theorem PollCase.pollPhase_eq {usbboot : Bool} (h : PollCase temp chg usbboot s t) :
    pollPhase temp chg usbboot s = t := by
  cases h with
  | bootHeld hp h | bootReleased hp h => simp [pollPhase, boot, hp, h]
  | overheat hp ho =>
    obtain hw | hw | hw := (waits_iff _).mp hp <;>
      simp [pollPhase, hw, spinWait_overheats chg _ hp ho, idleStrobe_idleChg_duties]
  | downQuiet hp hc h | down hp hc h => simp [pollPhase_waitDown _ hp hc, waitDown_duties, h]
  | shortOff hp hc h hn | shortOn hp hc h hn =>
    rw [pollPhase_waitUp _ hp hc, waitUp_duties, if_neg h]
    simp [shortAction, State.duties, hn]
  | longOff hp hc h hd hs =>
    rw [pollPhase_waitUp _ hp hc, waitUp_duties, if_pos h, if_pos hd]
    simp [longAction, State.duties, hs]
  | longStrobe hp hc h hd hs hm | longSolid hp hc h hd hs hm =>
    rw [pollPhase_waitUp _ hp hc, waitUp_duties, if_pos h, if_pos hd]
    simp [longAction, toggleModifier, State.duties, hs, hm, Modifier.flip]
  | held hp hc h hd => rw [pollPhase_waitUp _ hp hc, waitUp_duties, if_pos h, if_neg hd]
  | relQuiet hp hc h | rel hp hc h => simp [pollPhase_waitRel _ hp hc, waitRel_duties, h]
  | offHeld hp h | offReleased hp h => simp [pollPhase, hp, offRel, h]
  | settling hp hd | settled hp hd => simp [pollPhase, hp, offSettle, expired_eq_due, hd]
  | warningWaits hp hd => simp [pollPhase, hp, thermStep_eq, hd]
  | warningToggles hp hd h | warningEnds hp hd h => simp [pollPhase, hp, thermStep_eq, hd, h]
  | reservedPhase hp => simp [pollPhase, hp]

end PollCase

/-! ### The words to come (20 R69, R73) -/

/-- The state with other words to come. -/
def State.setWords (ws : List OpWord) (s : State) : State := { s with opw_queue := ws }

section SetWords
variable (ws : List OpWord) (s : State)

theorem setWords_ite (c : Prop) [Decidable c] (t : State) :
    (if c then s else t).setWords ws = if c then s.setWords ws else t.setWords ws := apply_ite _ _ _ _

theorem expire_setWords : expire (s.setWords ws) = (expire s).setWords ws := by
  unfold expire countEdge
  cases hp : s.pin <;> cases hd : s.deb_level <;> simp [State.setWords, hp, hd]

theorem settleStep_setWords : settleStep (s.setWords ws) = (settleStep s).setWords ws := by
  simp only [settleStep, setWords_ite, ← expire_setWords]
  rfl

/-- No case of a POLL reads the words to come, in its guard or in the registers it leaves. -/
theorem PollCase.setWords {temp : Byte} {chg usbboot : Bool} {s t : State} (h : PollCase temp chg usbboot s t) :
    PollCase temp chg usbboot (s.setWords ws) (t.setWords ws) := by
  cases h with
  | bootHeld hp h => exact .bootHeld hp h
  | bootReleased hp h => exact .bootReleased hp h
  | overheat hp ho => exact .overheat hp ho
  | downQuiet hp hc h => exact .downQuiet hp hc h
  | down hp hc h => exact .down hp hc h
  | shortOff hp hc h hn => exact .shortOff hp hc h hn
  | shortOn hp hc h hn => exact .shortOn hp hc h hn
  | longOff hp hc h hd hs => exact .longOff hp hc h hd hs
  | longStrobe hp hc h hd hs hm => exact .longStrobe hp hc h hd hs hm
  | longSolid hp hc h hd hs hm => exact .longSolid hp hc h hd hs hm
  | held hp hc h hd => exact .held hp hc h hd
  | relQuiet hp hc h => exact .relQuiet hp hc h
  | rel hp hc h => exact .rel hp hc h
  | offHeld hp h => exact .offHeld hp h
  | offReleased hp h => exact .offReleased hp h
  | settling hp hd => exact .settling hp hd
  | settled hp hd => exact .settled hp hd
  | warningWaits hp hd => exact .warningWaits hp hd
  | warningToggles hp hd h => exact .warningToggles hp hd h
  | warningEnds hp hd h => exact .warningEnds hp hd h
  | reservedPhase hp => exact .reservedPhase hp

theorem pollPhase_setWords (temp : Byte) (chg usbboot : Bool) :
    pollPhase temp chg usbboot (s.setWords ws) = (pollPhase temp chg usbboot s).setWords ws :=
  ((pollPhase_cases temp chg usbboot s).setWords ws).pollPhase_eq

/-- The words to come neither decide what an operation does nor change by it. -/
theorem resultOf_setWords (i : Instr) : resultOf i (s.setWords ws) = (resultOf i s).setWords ws := by
  cases i with
  | nop | tick | now | elapsed | expired | rst => rfl
  | pin level =>
    have change : (if level ≠ s.pin then arm { s.setWords ws with pin := level } else s.setWords ws) =
        (if level ≠ s.pin then arm { s with pin := level } else s).setWords ws := by
      rw [setWords_ite]
      rfl
    exact congrArg (State.withOutputs false 0#8) change
  | sclk =>
    have pulse : (if s.settle_armed then settleStep (s.setWords ws) else s.setWords ws) =
        (if s.settle_armed then settleStep s else s).setWords ws := by rw [setWords_ite, settleStep_setWords]
    exact congrArg (State.withOutputs false 0#8) pulse
  | poll temp chg usbboot => exact congrArg (State.withOutputs true 0#8) (pollPhase_setWords ws s temp chg usbboot)

end SetWords

/-- Settles O14: other words to come stay as they are set, and so do those that stand there. -/
theorem operationsIgnoreLaterWords : Obligations.OperationsIgnoreLaterWords := by
  intro i ws s t h
  obtain rfl := exec_next_iff.mp h
  have same : resultOf i s = (resultOf i s).setWords s.opw_queue := resultOf_setWords s.opw_queue s i
  refine ⟨?_, exec_next_iff.mpr (resultOf_setWords ws s i).symm⟩
  rw [same]
  rfl

/-! ### Programs (20 R69) -/

/-- The decoder reads an operation from its word (30_encoding R82 to R84). -/
theorem decode_encode (i : Instr) : decode (encode i) = .instr i := by
  cases i with
  | nop | tick | now | sclk => decide
  | elapsed | expired => exact decode_mkOpw ..
  | pin level | rst level => cases level <;> decide
  | poll temp chg usbboot =>
    rw [encode, decode_mkOpw]
    cases chg <;> cases usbboot <;> rfl

/-- With the word of an operation first on the port, a legal step runs it and leaves the words after. -/
theorem step_setWords_encode {s : State} (hl : s.cfg.legal = true) (i : Instr) (ws : List OpWord) :
    step (s.setWords (encode i :: ws)) = .next ((resultOf i s).setWords ws) := by
  rw [← resultOf_setWords, ← exec_eq_next_resultOf]
  exact stepRunsDecodedWord _ _ ws i hl rfl (decode_encode i)

/-- A run of one step more is that step and the run from where it leads. -/
theorem run_succ_of_step {s t : State} (h : step s = .next t) (n : Nat) :
    Host.Core.run core (n + 1) s = Host.Core.run core n t := by
  have hc : core.step s = .next t := h
  simp only [Host.Core.run, hc]

/-- Settles O13, by induction on the list: the first step runs the first operation and leaves the rest of the words. -/
theorem stepsRunTheWordsInOrder : Obligations.StepsRunTheWordsInOrder := by
  intro is rest s hl
  induction is generalizing s with
  | nil => rfl
  | cons i is ih =>
    have run : Host.Core.run core (is.length + 1) (s.setWords (encode i :: (is.map encode ++ rest))) =
        Host.Core.run core is.length ((resultOf i s).setWords (is.map encode ++ rest)) :=
      run_succ_of_step (step_setWords_encode hl i _) _
    have ops : execAll (i :: is) (s.setWords rest) = execAll is ((resultOf i s).setWords rest) := by
      rw [execAll_cons, resultOf_setWords]
    exact run.trans ((ih (resultOf i s) (by rwa [resultOf_cfg])).trans ops.symm)

/-! ### The writers of the registers (20 R65) -/

@[simp] theorem expire_tick (s : State) : (expire s).tick = s.tick := by
  obtain ⟨-, h⟩ | ⟨-, -, h⟩ | ⟨-, -, h⟩ := expire_cases s <;> rw [h]

@[simp] theorem expire_pin (s : State) : (expire s).pin = s.pin := by
  obtain ⟨-, h⟩ | ⟨-, -, h⟩ | ⟨-, -, h⟩ := expire_cases s <;> rw [h]

@[simp] theorem expire_settle_armed (s : State) : (expire s).settle_armed = false := rfl

/-- No case of a POLL writes the Tick (40 R101). -/
theorem PollCase.tick_eq {temp : Byte} {chg usbboot : Bool} {s t : State} (h : PollCase temp chg usbboot s t) :
    t.tick = s.tick := by
  cases h <;> rfl

/-- What PIN leaves outside the pin and the settle timer (41 R121 to R123). -/
theorem resultOf_pin_frame (level : Level) (s : State) :
    (resultOf (.pin level) s).tick = s.tick ∧ (resultOf (.pin level) s).deb_level = s.deb_level ∧
      (resultOf (.pin level) s).press_count = s.press_count ∧
        (resultOf (.pin level) s).release_count = s.release_count := by
  rw [resultOf]
  split <;> exact ⟨rfl, rfl, rfl, rfl⟩

/-- What SCLK leaves outside the settle timer: the Tick and the pin, and while it does not disarm the timer the
debounced level and the counters (41 R125, R126). -/
theorem resultOf_sclk_frame (s : State) :
    (resultOf .sclk s).tick = s.tick ∧ (resultOf .sclk s).pin = s.pin ∧
      ((resultOf .sclk s).settle_armed = s.settle_armed →
        (resultOf .sclk s).deb_level = s.deb_level ∧ (resultOf .sclk s).press_count = s.press_count ∧
          (resultOf .sclk s).release_count = s.release_count) := by
  rw [resultOf]
  obtain ⟨-, h⟩ | ⟨-, -, h⟩ | ⟨armed, -, h⟩ := sclk_cases s <;> rw [h]
  · exact ⟨rfl, rfl, fun _ => ⟨rfl, rfl, rfl⟩⟩
  · exact ⟨rfl, rfl, fun _ => ⟨rfl, rfl, rfl⟩⟩
  · exact ⟨expire_tick _, expire_pin _, by simp [armed]⟩

/-- Settles O49: the frame of each operation; that of the sequencer and the outputs is `resultOf_frame`. -/
theorem registersHaveOneWriter : Obligations.RegistersHaveOneWriter := by
  intro i s t h
  obtain rfl := exec_next_iff.mp h
  cases i with
  | nop | now | elapsed | expired => exact ⟨rfl, by constructor <;> rfl, resultOf_frame (by simp) (by simp) s⟩
  | tick => exact ⟨by constructor <;> rfl, resultOf_frame (by simp) (by simp) s⟩
  | pin level =>
    obtain ⟨tick, deb, press, release⟩ := resultOf_pin_frame level s
    exact ⟨tick, deb, press, release, resultOf_frame (by simp) (by simp) s⟩
  | sclk =>
    obtain ⟨tick, pin, counts⟩ := resultOf_sclk_frame s
    obtain ⟨sequencer, outputs⟩ := resultOf_frame (i := .sclk) (by simp) (by simp) s
    exact ⟨tick, pin, sequencer, outputs, counts⟩
  | poll temp chg usbboot =>
    have hcase := pollPhase_cases temp chg usbboot s
    exact ⟨hcase.tick_eq, { hcase.sameDebounce with }⟩
  | rst level => rfl

end Sys2Proof.Machine

/-!
PROOFS. The encoding (30_encoding): the round trips, the decoder against the match and mask table, which words are
reserved, the words as numbers, the pseudo-operations, the stops of a step, and the output ports.
-/
namespace Sys2Proof.Machine

/-! ### Operation codes (R82) -/

/-- Case analysis on an operation code: the nine known ones, and the unknown 0x8 to 0xE (R86). -/
theorem opCases {P : BitVec 4 → Prop} (nop : P 0x0#4) (tick : P 0x1#4) (now : P 0x2#4) (elapsed : P 0x3#4)
    (expired : P 0x4#4) (pin : P 0x5#4) (sclk : P 0x6#4) (poll : P 0x7#4) (rst : P 0xF#4)
    (unknown : ∀ op : BitVec 4, 8 ≤ op.toNat → op.toNat ≤ 14 → P op) (op : BitVec 4) : P op := by
  by_cases h : 8 ≤ op.toNat ∧ op.toNat ≤ 14
  · exact unknown op h.1 h.2
  · have known : op = 0x0#4 ∨ op = 0x1#4 ∨ op = 0x2#4 ∨ op = 0x3#4 ∨ op = 0x4#4 ∨ op = 0x5#4 ∨ op = 0x6#4 ∨
        op = 0x7#4 ∨ op = 0xF#4 := by
      revert op
      decide
    rcases known with rfl | rfl | rfl | rfl | rfl | rfl | rfl | rfl | rfl <;> assumption

/-- An unknown code is refused, whatever the operand fields are. -/
theorem decodeFields_unknown {op : BitVec 4} (lo : 8 ≤ op.toNat) (hi : op.toNat ≤ 14) (a b : Byte) :
    decodeFields op a b = .reserved .operationCode := by
  unfold decodeFields
  split
  case h_10 => rfl
  all_goals omega

/-! ### Encoding and decoding are inverse (R81 to R85) -/

/-- Settles O2, by `decode_encode`: the fields of an operation's word are what the encoder put there. -/
theorem decodeEncodeRoundTrip : Obligations.DecodeEncodeRoundTrip := decode_encode

theorem whenUnusedZero_eq_instr {zero : Bool} {i j : Instr} :
    whenUnusedZero zero i = .instr j ↔ zero = true ∧ i = j := by
  cases zero <;> simp [whenUnusedZero]

/-- With `b[7:1] = 0`, the one-bit operand of PIN and RST is all of `b`. -/
theorem bitByte_bit0 {b : Byte} (h : bAboveBit0Zero b = true) : bitByte (b.getLsbD 0) = b := by
  revert b
  decide

/-- With `b[7:2] = 0`, the two one-bit operands of POLL are all of `b`. -/
theorem bitByte_bits {b : Byte} (h : bAboveBit1Zero b = true) :
    bitByte (b.getLsbD 1) * 2#8 + bitByte (b.getLsbD 0) = b := by
  revert b
  decide

/-- An operation read from fields is encoded by these fields: the unused ones are 0, the used ones are its operands. -/
theorem encode_of_decodeFields {op : BitVec 4} {a b : Byte} {i : Instr} (h : decodeFields op a b = .instr i) :
    encode i = mkOpw op a b := by
  cases op using opCases with
  | nop | tick | now | sclk =>
    obtain ⟨hz, rfl⟩ := whenUnusedZero_eq_instr.mp h
    obtain ⟨rfl, rfl⟩ : a = 0#8 ∧ b = 0#8 := by simpa using hz
    rfl
  | elapsed | expired =>
    cases h
    rfl
  | pin | rst =>
    obtain ⟨hz, rfl⟩ := whenUnusedZero_eq_instr.mp h
    obtain ⟨rfl, hb⟩ : a = 0#8 ∧ bAboveBit0Zero b = true := by simpa using hz
    rw [encode, Level_bit_ofBit, bitByte_bit0 hb]
  | poll =>
    obtain ⟨hb, rfl⟩ := whenUnusedZero_eq_instr.mp h
    rw [encode, bitByte_bits hb]
  | unknown op lo hi =>
    rw [decodeFields_unknown lo hi] at h
    cases h

/-- Settles O3: the word is made of the fields the operation was read from. -/
theorem encodeDecodeRoundTrip : Obligations.EncodeDecodeRoundTrip := by
  intro w i h
  rw [encode_of_decodeFields h, mkOpw_fields]

/-! ### The match and mask table (R83) -/

/-- The rows a word selects by what the decoder reads from it: the row of the operation, or none. -/
def rowsRead : Decoded → List Mnemonic
  | .instr i => [i.mnemonic]
  | .reserved _ => []

theorem rowsRead_whenUnusedZero (zero : Bool) (i : Instr) :
    rowsRead (whenUnusedZero zero i) = if zero then [i.mnemonic] else [] := by
  cases zero <;> rfl

/-- A row written by its fields is selected field by field. -/
theorem selects_mkOpw (m : Mnemonic) (p q op : BitVec 4) (c d e f a b : Byte) :
    OpRow.selects ⟨m, mkOpw p c d, mkOpw q e f⟩ (mkOpw op a b) = decide (op &&& q = p ∧ a &&& e = c ∧ b &&& f = d) := by
  rw [OpRow.selects, mkOpw_and, Bool.eq_iff_iff, beq_iff_eq, mkOpw_inj, decide_eq_true_iff]

/-- The table of R83 by fields: every row masks the whole of `op`. -/
theorem opTable_fields : opTable =
    [ ⟨.NOP, mkOpw 0x0#4 0#8 0#8, mkOpw 0xF#4 0xFF#8 0xFF#8⟩, ⟨.TICK, mkOpw 0x1#4 0#8 0#8, mkOpw 0xF#4 0xFF#8 0xFF#8⟩,
      ⟨.NOW, mkOpw 0x2#4 0#8 0#8, mkOpw 0xF#4 0xFF#8 0xFF#8⟩, ⟨.ELAPSED, mkOpw 0x3#4 0#8 0#8, mkOpw 0xF#4 0#8 0#8⟩,
      ⟨.EXPIRED, mkOpw 0x4#4 0#8 0#8, mkOpw 0xF#4 0#8 0#8⟩, ⟨.PIN, mkOpw 0x5#4 0#8 0#8, mkOpw 0xF#4 0xFF#8 0xFE#8⟩,
      ⟨.SCLK, mkOpw 0x6#4 0#8 0#8, mkOpw 0xF#4 0xFF#8 0xFF#8⟩, ⟨.POLL, mkOpw 0x7#4 0#8 0#8, mkOpw 0xF#4 0#8 0xFC#8⟩,
      ⟨.RST, mkOpw 0xF#4 0#8 0#8, mkOpw 0xF#4 0xFF#8 0xFE#8⟩ ] := by
  decide

theorem and_FF (a : Byte) : a &&& 0xFF#8 = a := BitVec.and_allOnes

/-- The mask of PIN and RST looks at `b[7:1]`. -/
theorem and_FE_eq_zero (b : Byte) : b &&& 0xFE#8 = 0#8 ↔ bAboveBit0Zero b = true := by
  revert b
  decide

/-- The mask of POLL looks at `b[7:2]`. -/
theorem and_FC_eq_zero (b : Byte) : b &&& 0xFC#8 = 0#8 ↔ bAboveBit1Zero b = true := by
  revert b
  decide

/-- The rows a word selects, code by code: a row's mask looks at `op` and at just the bits the decoder wants 0. -/
theorem rowsOf_mkOpw (op : BitVec 4) (a b : Byte) : rowsOf (mkOpw op a b) = rowsRead (decodeFields op a b) := by
  rw [rowsOf, opTable_fields]
  cases op using opCases with
  | elapsed | expired =>
    refine Eq.trans (b := [_]) ?_ rfl
    simp [selects_mkOpw, Instr.mnemonic]
  | nop | tick | now | sclk | pin | rst | poll =>
    refine Eq.trans ?_ (rowsRead_whenUnusedZero _ _).symm
    simp [List.filter_cons, selects_mkOpw, and_FF, and_FE_eq_zero, and_FC_eq_zero, apply_ite (List.map _),
      Instr.mnemonic]
  | unknown op lo hi =>
    have ne {k : BitVec 4} (hk : k.toNat < 8 ∨ k.toNat = 15) : op &&& 0xF#4 ≠ k := by
      rintro rfl
      rw [show op &&& 0xF#4 = op from BitVec.and_allOnes] at hk
      omega
    rw [decodeFields_unknown lo hi]
    simp [selects_mkOpw, ne, rowsRead]

/-- Settles O4: the selected rows are a function of what the decoder reads. -/
theorem decoderAgreesWithMatchMaskTable : Obligations.DecoderAgreesWithMatchMaskTable := by
  intro w
  have agree : rowsOf w = rowsRead (decode w) := by
    rw [← mkOpw_fields w, rowsOf_mkOpw, decode_mkOpw]
  constructor
  · intro i h
    rw [agree, h, rowsRead]
  · intro why h
    rw [agree, h, rowsRead]

/-! ### Reserved words (R85, R86) -/

theorem whenUnusedZero_ne_operationCode (zero : Bool) (i : Instr) :
    whenUnusedZero zero i ≠ .reserved .operationCode := by
  cases zero <;> simp [whenUnusedZero]

theorem whenUnusedZero_eq_operandBits {zero : Bool} {i : Instr} :
    whenUnusedZero zero i = .reserved .operandBits ↔ zero = false := by
  cases zero <;> simp [whenUnusedZero]

/-- The operation code is the reason exactly for the unknown codes. -/
theorem decodeFields_eq_operationCode {op : BitVec 4} {a b : Byte} :
    decodeFields op a b = .reserved .operationCode ↔ 8 ≤ op.toNat ∧ op.toNat ≤ 14 := by
  cases op using opCases with
  | nop | tick | now | sclk | pin | poll | rst => exact iff_of_false (whenUnusedZero_ne_operationCode _ _) (by decide)
  | elapsed | expired => exact iff_of_false nofun (by decide)
  | unknown op lo hi => exact iff_of_true (decodeFields_unknown lo hi a b) ⟨lo, hi⟩

/-- An operand bit of an operation without operands is 1. -/
theorem operands_ne_zero_iff {a b : Byte} : (a == 0#8 && b == 0#8) = false ↔ a.toNat * 256 + b.toNat ≠ 0 := by
  have ha : a = 0#8 ↔ a.toNat = 0 := BitVec.toNat_inj.symm
  have hb : b = 0#8 ↔ b.toNat = 0 := BitVec.toNat_inj.symm
  rw [Bool.and_eq_false_imp, beq_iff_eq, beq_eq_false_iff_ne, ne_eq, ha, hb]
  omega

/-- A bit of `a` or of `b[7:1]` is 1. -/
theorem operands_above_bit0_iff {a b : Byte} :
    (a == 0#8 && bAboveBit0Zero b) = false ↔ 2 ≤ a.toNat * 256 + b.toNat := by
  have ha : a = 0#8 ↔ a.toNat = 0 := BitVec.toNat_inj.symm
  rw [bAboveBit0Zero_eq, Bool.and_eq_false_imp, beq_iff_eq, decide_eq_false_iff_not, ha]
  omega

/-- The operand bits are the reason exactly for a known code with an unused bit set. -/
theorem decodeFields_eq_operandBits {op : BitVec 4} {a b : Byte} :
    decodeFields op a b = .reserved .operandBits ↔
      (op.toNat ∈ [0, 1, 2, 6] ∧ a.toNat * 256 + b.toNat ≠ 0) ∨
      (op.toNat ∈ [5, 15] ∧ 2 ≤ a.toNat * 256 + b.toNat) ∨
      (op.toNat = 7 ∧ 4 ≤ b.toNat) := by
  cases op using opCases with
  | nop | tick | now | sclk => exact whenUnusedZero_eq_operandBits.trans (operands_ne_zero_iff.trans (by simp))
  | pin | rst => exact whenUnusedZero_eq_operandBits.trans (operands_above_bit0_iff.trans (by simp))
  | poll => exact whenUnusedZero_eq_operandBits.trans (by simp [bAboveBit1Zero_eq])
  | elapsed | expired => exact iff_of_false nofun (by simp)
  | unknown op lo hi =>
    rw [decodeFields_unknown lo hi]
    refine iff_of_false nofun ?_
    simp only [List.mem_cons, List.not_mem_nil, or_false]
    omega

/-- Settles O5: the quotients and remainders of the word are its fields. -/
theorem reservedWordsByFields : Obligations.ReservedWordsByFields := by
  intro w
  obtain ⟨op, a, b, rfl⟩ : ∃ op a b, w = mkOpw op a b := ⟨_, _, _, (mkOpw_fields w).symm⟩
  have ha := a.isLt
  have hb := b.isLt
  have hop : (mkOpw op a b).toNat / 65536 = op.toNat := by rw [mkOpw_toNat]; omega
  have hab : (mkOpw op a b).toNat % 65536 = a.toNat * 256 + b.toNat := by rw [mkOpw_toNat]; omega
  have hlow : (mkOpw op a b).toNat % 256 = b.toNat := by rw [mkOpw_toNat]; omega
  rw [hop, hab, hlow, decode_mkOpw]
  exact ⟨decodeFields_eq_operationCode, decodeFields_eq_operandBits⟩

/-! ### Words and numbers (R81 to R84) -/

/-- Settles O1, by decoding each word. -/
theorem specWordsDecode : Obligations.SpecWordsDecode := by
  unfold Obligations.SpecWordsDecode
  decide

theorem bitByte_toNat (v : Bool) : (bitByte v).toNat = v.toNat := by cases v <;> rfl

/-- The one-bit operands of POLL as the number in `b`. -/
theorem bitByte_pair_toNat (v u : Bool) : (bitByte v * 2#8 + bitByte u).toNat = v.toNat * 2 + u.toNat := by
  cases v <;> cases u <;> rfl

/-- Settles O6: each word is its fields, and these are the operands. -/
theorem encodedWordAsNumber : Obligations.EncodedWordAsNumber := by
  refine ⟨fun ref until_ => mkOpw_toNat .., fun ref thr => mkOpw_toNat .., fun temp chg usbboot => ?_,
    fun level => ?_, fun level => ?_⟩
  · rw [encode, mkOpw_toNat, bitByte_pair_toNat, ← Nat.add_assoc]
    rfl
  · rw [encode, mkOpw_toNat, bitByte_toNat]
    rfl
  · rw [encode, mkOpw_toNat, bitByte_toNat]
    rfl

/-- Settles O7: each expansion is the definition's own equation, and the three lines of POLL are assembled. -/
theorem pseudoOperationsExpand : Obligations.PseudoOperationsExpand :=
  ⟨fun _ _ => rfl, fun _ => rfl, fun _ _ => rfl, fun _ => rfl, fun _ => rfl, fun _ => rfl, by decide, by decide,
    by decide⟩

/-! ### The stops of a step (R86; 00_scope R8) -/

theorem step_of_illegal {s : State} (hl : s.cfg.legal = false) : step s = .refused .illegalConfiguration := by
  simp [step, hl]

theorem step_of_reserved {s : State} {why : Reserved} (hl : s.cfg.legal = true)
    (hd : decode s.portWord = .reserved why) : step s = .refused (.reservedEncoding s.portWord) := by
  simp [step, hl, hd]

/-- Settles O10: what the step answers, by whether the configuration is legal and what the port's word decodes to. -/
theorem stepRefusesExactlyReservedOrIllegal : Obligations.StepRefusesExactlyReservedOrIllegal := by
  refine ⟨fun s => step_of_illegal, fun s w rest why hl hq hd => ?_, fun s => ⟨?_, ?_⟩⟩
  · have hport : s.portWord = w := by rw [State.portWord, hq, List.headD_cons]
    rw [step_of_reserved hl (hport ▸ hd), hport]
  · rintro ⟨t, h⟩
    obtain ⟨hl, i, hd, -⟩ := step_next_cases h
    exact ⟨hl, i, hd⟩
  · rintro ⟨hl, i, hd⟩
    exact ⟨_, (step_eq_exec hl hd).trans (exec_eq_next_resultOf i _)⟩

/-! ### The output ports (R95) -/

/-- Settles O47: each port is defined as its register, with the code of 00_scope R12. -/
theorem portsShowRegisters : Obligations.PortsShowRegisters := fun _ => rfl

end Sys2Proof.Machine

/-!
PROOFS. The Tick clock (40_tick_clock): what its five operations return and leave unchanged, the one writer of `tick`
besides RST (R101), and the Duration between two ticks (R103, R104, R107).
-/
namespace Sys2Proof.Machine

/-! ### No event (R100) -/

/-- Settles O16: NOP writes the two step outputs alone. -/
theorem nopWritesNothing : Obligations.NopWritesNothing :=
  ⟨exec_eq_next_resultOf .nop, by decide⟩

/-- A step with an empty port takes no word off it. -/
theorem takeWord_of_empty {s : State} (hq : s.opw_queue = []) : s.takeWord = s := by
  cases s
  cases hq
  rfl

/-- Settles O9: the empty port carries the word of NOP, and there is no word to take. -/
theorem stepWithoutWordIsNop : Obligations.StepWithoutWordIsNop := by
  intro s hl hq
  have hport : s.portWord = encode .nop := by
    rw [State.portWord, hq]
    rfl
  rw [step_eq_exec hl (hport ▸ decode_encode .nop), takeWord_of_empty hq]

/-! ### The writers of the Tick (R101) -/

/-- `tick + 1` wraps silently at 256. -/
theorem tick_add_one_eq_ofNat (x : Byte) : x + 1#8 = BitVec.ofNat 8 ((x.toNat + 1) % 256) := by
  apply BitVec.eq_of_toNat_eq
  rw [BitVec.toNat_add, BitVec.toNat_ofNat, BitVec.toNat_ofNat]
  exact (Nat.mod_mod _ _).symm

/-- No operation besides TICK and RST writes the Tick. -/
theorem resultOf_tick_kept {i : Instr} (ht : i ≠ .tick) (hr : ∀ level, i ≠ .rst level) (s : State) :
    (resultOf i s).tick = s.tick := by
  cases i with
  | nop | now | elapsed | expired => rfl
  | tick => exact absurd rfl ht
  | pin level =>
    obtain ⟨tick, -⟩ := resultOf_pin_frame level s
    exact tick
  | sclk =>
    obtain ⟨tick, -⟩ := resultOf_sclk_frame s
    exact tick
  | poll temp chg usbboot => exact (pollPhase_cases temp chg usbboot s).tick_eq
  | rst level => exact absurd rfl (hr level)

/-- Settles O17: the sum as a number, and by `resultOf_tick_kept` the writers are TICK and RST. -/
theorem tickAdvancesModulo256 : Obligations.TickAdvancesModulo256 := by
  refine ⟨fun s => ?_, by decide, fun i s t h changed => ?_⟩
  · rw [← tick_add_one_eq_ofNat]
    exact exec_eq_next_resultOf .tick s
  · obtain rfl := exec_next_iff.mp h
    by_cases ht : i = .tick
    · exact .inl ht
    · by_cases hr : ∃ level, i = .rst level
      · exact .inr hr
      · exact absurd (resultOf_tick_kept ht (fun level e => hr ⟨level, e⟩) s) changed

/-! ### The queries (R102, R103, R105) -/

/-- Settles O18: NOW writes the two step outputs alone. -/
theorem nowReturnsTick : Obligations.NowReturnsTick :=
  ⟨exec_eq_next_resultOf .now, by decide⟩

theorem elapsed_eq_ofNat (ref until_ : Byte) :
    elapsed ref until_ = BitVec.ofNat 8 ((until_.toNat + 256 - ref.toNat) % 256) := by
  rw [← elapsed_toNat, BitVec.ofNat_toNat, BitVec.setWidth_eq]

/-- Settles O19: the difference as a number, and the word as its fields. -/
theorem elapsedReturnsModularDifference : Obligations.ElapsedReturnsModularDifference := by
  refine ⟨fun ref until_ s => ?_, fun ref until_ => mkOpw_toNat ..⟩
  rw [← elapsed_eq_ofNat]
  exact exec_eq_next_resultOf (.elapsed ref until_) s

/-- The result of EXPIRED, with the comparison on the modular difference. -/
theorem zext8_expired (s : State) (ref : Byte) (n : Nat) :
    zext8 (expired s ref n) = if n ≤ (s.tick.toNat + 256 - ref.toNat) % 256 then 1#8 else 0#8 := by
  simp only [zext8, expired_eq_due, due_iff]

/-- Settles O20: the comparison is at least, and the word is its fields. -/
theorem expiredComparesAtLeast : Obligations.ExpiredComparesAtLeast := by
  refine ⟨fun ref thr s => ?_, fun ref thr => mkOpw_toNat ..⟩
  rw [← zext8_expired]
  exact exec_eq_next_resultOf (.expired ref thr) s

/-! ### Durations (R104, R107) -/

/-- Settles O21: the two branches are the modular difference with and without the wrap. -/
theorem elapsedMatchesDocumentFormula : Obligations.ElapsedMatchesDocumentFormula := by
  intro ref until_
  have href := ref.isLt
  have huntil := until_.isLt
  rw [elapsed_toNat]
  split <;> omega

/-- A run without RST advances the Tick by the number of its TICK operations. -/
theorem tick_of_execAll {is : List Instr} {s t : State} (hr : ∀ level, Instr.rst level ∉ is)
    (h : execAll is s = .next t) : t.tick = s.tick + BitVec.ofNat 8 (is.count .tick) := by
  induction is generalizing s with
  | nil =>
    cases h
    exact (BitVec.add_zero _).symm
  | cons i is ih =>
    have hne (level : Level) : i ≠ .rst level := fun e => hr level (e ▸ List.mem_cons_self)
    have run := ih (fun level m => hr level (List.mem_cons_of_mem i m)) (by rwa [execAll_cons] at h)
    rw [run]
    by_cases ht : i = .tick
    · subst ht
      rw [List.count_cons_self, BitVec.ofNat_add, BitVec.add_comm (BitVec.ofNat 8 _), ← BitVec.add_assoc]
      rfl
    · rw [resultOf_tick_kept ht hne, List.count_cons_of_ne ht]

/-- The Duration from a tick to the one `n` TICK operations later. -/
theorem elapsed_add_ofNat (ref : Byte) (n : Nat) : elapsed ref (ref + BitVec.ofNat 8 n) = BitVec.ofNat 8 n := by
  rw [elapsed, BitVec.add_comm, BitVec.add_sub_cancel]

/-- Settles O22, by induction on the run in `tick_of_execAll`: the difference cancels the Tick before it. -/
theorem elapsedCountsTicks : Obligations.ElapsedCountsTicks := by
  intro is s t u hr hrun hu
  obtain rfl := exec_next_iff.mp hu
  have hres : (resultOf (.elapsed s.tick t.tick) t).res = elapsed s.tick t.tick := rfl
  rw [hres, tick_of_execAll hr hrun, elapsed_add_ofNat, BitVec.toNat_ofNat]

end Sys2Proof.Machine

/-!
PROOFS. The button debounce (41_button_debounce): what PIN and SCLK do (R121 to R126), the counters as a record of
debounced transitions (R127), and the settle window of a held level and of a burst (R124, R128 to R130).
-/
namespace Sys2Proof.Machine

/-! ### PIN (R121 to R123) -/

theorem resultOf_pin_same {level : Level} {s : State} (h : level = s.pin) :
    resultOf (.pin level) s = s.withOutputs false 0#8 := by
  rw [resultOf, if_neg fun change => change h]

theorem resultOf_pin_change {level : Level} {s : State} (h : level ≠ s.pin) :
    resultOf (.pin level) s = (arm { s with pin := level }).withOutputs false 0#8 := by
  rw [resultOf, if_pos h]

/-- Settles O23, by whether the level is a change. -/
theorem pinLoadsLevelAndArmsTimer : Obligations.PinLoadsLevelAndArmsTimer := by
  obtain ⟨-, -, -, word, -⟩ := encodedWordAsNumber
  refine ⟨fun level s => ?_, word⟩
  rw [exec_eq_next_resultOf]
  split
  case isTrue h =>
    rw [resultOf_pin_same h]
    rfl
  case isFalse h =>
    rw [resultOf_pin_change h]
    rfl

/-! ### The end of a settle window (R126) -/

/-- The state after the SCLK that takes the settle timer to 0. -/
def State.settled (s : State) : State := (expire { s with settle_cnt := 0 }).withOutputs false 0#8

/-- The expiry of SCLK as one record, by the pin and the debounced level. -/
theorem settled_cases (s : State) :
    (s.pin = s.deb_level ∧
      s.settled = { s with settle_cnt := 0, settle_armed := false, res := 0#8, wdt_kick := false }) ∨
    (s.pin = .pressed ∧ s.deb_level = .released ∧
      s.settled = { s with
        settle_cnt := 0, settle_armed := false, deb_level := .pressed
        press_count := s.press_count + 1#8, res := 0#8, wdt_kick := false }) ∨
    (s.pin = .released ∧ s.deb_level = .pressed ∧
      s.settled = { s with
        settle_cnt := 0, settle_armed := false, deb_level := .released
        release_count := s.release_count + 1#8, res := 0#8, wdt_kick := false }) := by
  obtain ⟨same, e⟩ | ⟨hp, hd, e⟩ | ⟨hp, hd, e⟩ := expire_cases { s with settle_cnt := 0 }
  · exact .inl ⟨same, congrArg (State.withOutputs false 0#8) e⟩
  · exact .inr (.inl ⟨hp, hd, congrArg (State.withOutputs false 0#8) e⟩)
  · exact .inr (.inr ⟨hp, hd, congrArg (State.withOutputs false 0#8) e⟩)

section Settled
variable (s : State)

@[simp] theorem settled_pin : s.settled.pin = s.pin := expire_pin _

@[simp] theorem settled_tick : s.settled.tick = s.tick := expire_tick _

@[simp] theorem settled_cfg : s.settled.cfg = s.cfg := expire_cfg _

@[simp] theorem settled_settle_armed : s.settled.settle_armed = false := rfl

@[simp] theorem settled_settle_cnt : s.settled.settle_cnt = 0 := by
  obtain ⟨-, e⟩ | ⟨-, -, e⟩ | ⟨-, -, e⟩ := settled_cases s <;> rw [e]

@[simp] theorem settled_opw_queue : s.settled.opw_queue = s.opw_queue := by
  obtain ⟨-, e⟩ | ⟨-, -, e⟩ | ⟨-, -, e⟩ := settled_cases s <;> rw [e]

@[simp] theorem settled_deb_level : s.settled.deb_level = s.pin := by
  obtain ⟨h, e⟩ | ⟨h, -, e⟩ | ⟨h, -, e⟩ := settled_cases s <;> rw [e, h]

theorem settled_press_count : s.settled.press_count =
    if s.pin = .pressed ∧ s.deb_level = .released then s.press_count + 1#8 else s.press_count := by
  obtain ⟨same, e⟩ | ⟨hp, hd, e⟩ | ⟨hp, hd, e⟩ := settled_cases s <;> rw [e]
  · cases hd : s.deb_level <;> simp [same, hd]
  · simp [hp, hd]
  · simp [hp]

theorem settled_release_count : s.settled.release_count =
    if s.pin = .released ∧ s.deb_level = .pressed then s.release_count + 1#8 else s.release_count := by
  obtain ⟨same, e⟩ | ⟨hp, hd, e⟩ | ⟨hp, hd, e⟩ := settled_cases s <;> rw [e]
  · cases hd : s.deb_level <;> simp [same, hd]
  · simp [hp]
  · simp [hp, hd]

theorem settled_frame : SameSequencer s s.settled ∧ SameOutputs s s.settled := by
  obtain ⟨sequencer, outputs⟩ := expire_frame { s with settle_cnt := 0 }
  exact ⟨{ sequencer with }, { outputs with }⟩

/-- The end of the window does not depend on the step outputs before it, which it writes. -/
theorem settled_withOutputs (kick : Bool) (res : Byte) : (s.withOutputs kick res).settled = s.settled := by
  unfold State.settled expire countEdge
  cases hp : s.pin <;> cases hd : s.deb_level <;> simp [hp, hd, State.withOutputs]

end Settled

/-! ### SCLK (R125) -/

/-- The state after `k` SCLK that leave an armed settle timer above 0. -/
def State.counted (s : State) (k : Nat) : State :=
  ({ s with settle_cnt := s.settle_cnt - k } : State).withOutputs false 0#8

theorem counted_counted (s : State) (j k : Nat) : (s.counted j).counted k = s.counted (j + k) := by
  simp [State.counted, State.withOutputs, Nat.sub_sub]

theorem counted_settled (s : State) (k : Nat) : (s.counted k).settled = s.settled := settled_withOutputs _ false 0#8

section Sclk
variable {s : State}

theorem resultOf_sclk_disarmed (ha : s.settle_armed = false) : resultOf .sclk s = s.withOutputs false 0#8 := by
  simp [resultOf, ha]

theorem resultOf_sclk_counts (ha : s.settle_armed = true) (h : 2 ≤ s.settle_cnt) :
    resultOf .sclk s = s.counted 1 := by
  rw [resultOf, if_pos ha, settleStep_counts s h, State.counted]

theorem resultOf_sclk_expires (ha : s.settle_armed = true) (h : s.settle_cnt = 1) :
    resultOf .sclk s = s.settled := by
  rw [resultOf, if_pos ha, settleStep_expires s h, State.settled]

end Sclk

/-- Settles O24: disarmed, counting or expiring; the expiry by the pin and the debounced level. -/
theorem sclkCountsDownAndExpires : Obligations.SclkCountsDownAndExpires := by
  refine ⟨fun s hpos => ?_, by decide⟩
  rw [exec_eq_next_resultOf, ← tick_add_one_eq_ofNat, ← tick_add_one_eq_ofNat]
  by_cases ha : s.settle_armed = false
  · rw [if_pos ha, resultOf_sclk_disarmed ha]
    rfl
  have armed : s.settle_armed = true := by simpa using ha
  rw [if_neg ha]
  by_cases h2 : 2 ≤ s.settle_cnt
  · rw [if_pos h2, resultOf_sclk_counts armed h2]
    rfl
  have last : s.settle_cnt = 1 := by
    have pos := hpos armed
    omega
  rw [if_neg h2, resultOf_sclk_expires armed last]
  obtain ⟨same, e⟩ | ⟨hp, hd, e⟩ | ⟨hp, hd, e⟩ := settled_cases s
  · rw [e, if_pos same]
  · rw [e, if_neg (by simp [hp, hd]), if_pos hp]
  · rw [e, if_neg (by simp [hp, hd]), if_neg (by simp [hp])]

/-! ### The counters and the debounced level (R127) -/

/-- The end of a settle window writes the debounced level and a counter together, or neither. -/
theorem settled_counts (s : State) :
    (s.settled.deb_level = s.deb_level ∧ s.settled.press_count = s.press_count ∧
      s.settled.release_count = s.release_count) ∨
    (s.pin ≠ s.deb_level ∧
      ((s.pin = .pressed ∧ s.settled.press_count = s.press_count + 1#8 ∧
          s.settled.release_count = s.release_count) ∨
        (s.pin = .released ∧ s.settled.press_count = s.press_count ∧
          s.settled.release_count = s.release_count + 1#8))) := by
  obtain ⟨-, e⟩ | ⟨hp, hd, e⟩ | ⟨hp, hd, e⟩ := settled_cases s <;> rw [e]
  · exact .inl ⟨rfl, rfl, rfl⟩
  · exact .inr ⟨by simp [hp, hd], .inl ⟨hp, rfl, rfl⟩⟩
  · exact .inr ⟨by simp [hp, hd], .inr ⟨hp, rfl, rfl⟩⟩

/-- Settles O27: among the operations besides RST, only the expiry of SCLK writes the debounced level or a counter. -/
theorem countersMoveWithDebouncedLevel : Obligations.CountersMoveWithDebouncedLevel := by
  intro i s t hr h
  obtain rfl := exec_next_iff.mp h
  cases i with
  | nop | tick | now | elapsed | expired => exact .inl ⟨rfl, rfl, rfl⟩
  | pin level =>
    obtain ⟨-, kept⟩ := resultOf_pin_frame level s
    exact .inl kept
  | sclk =>
    obtain ⟨-, e⟩ | ⟨-, -, e⟩ | ⟨armed, -, e⟩ := sclk_cases s <;> rw [resultOf, e]
    · exact .inl ⟨rfl, rfl, rfl⟩
    · exact .inl ⟨rfl, rfl, rfl⟩
    · obtain kept | ⟨changed, counted⟩ := settled_counts s
      · exact .inl kept
      · exact .inr ⟨rfl, armed, rfl, changed, settled_deb_level s, counted⟩
  | poll temp chg usbboot =>
    have same := (pollPhase_cases temp chg usbboot s).sameDebounce
    exact .inl ⟨same.deb_level, same.press_count, same.release_count⟩
  | rst level => exact absurd rfl (hr level)

/-! ### Runs of SCLK (R125) -/

section SclkRuns
variable {s : State}

/-- SCLK of a disarmed settle timer do nothing, once the step outputs are those of SCLK. -/
theorem execAll_sclk_disarmed (ha : s.settle_armed = false) (n : Nat) :
    execAll (List.replicate n .sclk) (s.withOutputs false 0#8) = .next (s.withOutputs false 0#8) := by
  induction n with
  | zero => rfl
  | succ n ih =>
    rw [List.replicate_succ, execAll_cons, resultOf_sclk_disarmed (s := s.withOutputs false 0#8) ha]
    exact ih

/-- Fewer SCLK than the settle timer has left only count it down. -/
theorem execAll_sclk_counts (ha : s.settle_armed = true) {k : Nat} (hk : k < s.settle_cnt) :
    execAll (List.replicate k .sclk) (s.withOutputs false 0#8) = .next (s.counted k) := by
  induction k generalizing s with
  | zero => rfl
  | succ k ih =>
    have left : 2 ≤ s.settle_cnt ∧ k < s.settle_cnt - 1 := by omega
    rw [List.replicate_succ, execAll_cons, resultOf_sclk_counts (s := s.withOutputs false 0#8) ha left.1,
      Nat.add_comm, ← counted_counted]
    exact ih (s := s.counted 1) ha left.2

/-- As many SCLK as an armed settle timer has left, or more, make it expire once. -/
theorem execAll_sclk_expires (ha : s.settle_armed = true) (hpos : 1 ≤ s.settle_cnt) {n : Nat}
    (hn : s.settle_cnt ≤ n) : execAll (List.replicate n .sclk) s = .next s.settled := by
  induction n generalizing s with
  | zero => omega
  | succ n ih =>
    rw [List.replicate_succ, execAll_cons]
    by_cases last : s.settle_cnt = 1
    · rw [resultOf_sclk_expires ha last]
      exact execAll_sclk_disarmed rfl n
    · have left : 1 ≤ s.settle_cnt - 1 ∧ s.settle_cnt - 1 ≤ n := by omega
      rw [resultOf_sclk_counts ha (by omega), ← counted_settled s 1]
      exact ih (s := s.counted 1) ha left.1 left.2

end SclkRuns

/-! ### A held level (R128 to R130) -/

/-- A level change and a full settle window after it are one expiry at the new level. -/
theorem execAll_held {level : Level} {s : State} (hc : 1 ≤ s.cfg.settleCount) (h : level ≠ s.pin) :
    execAll (.pin level :: List.replicate s.cfg.settleCount .sclk) s = .next (arm { s with pin := level }).settled := by
  rw [execAll_cons, resultOf_pin_change h, ← settled_withOutputs _ false 0#8]
  exact execAll_sclk_expires rfl hc (Nat.le_refl _)

/-- Settles O25: the registers after the one expiry of `execAll_held`. -/
theorem heldLevelIsCountedOnce : Obligations.HeldLevelIsCountedOnce := by
  intro level s hc h
  obtain ⟨sequencer, outputs⟩ := settled_frame (arm { s with pin := level })
  exact ⟨_, execAll_held hc h, settled_pin _, rfl, settled_settle_cnt _, settled_deb_level _, settled_press_count _,
    settled_release_count _, settled_tick _, { sequencer with }, { outputs with }, settled_cfg _, settled_opw_queue _⟩

/-! ### A burst (R124, R129) -/

/-- The state after one bounce: a level change and `k` SCLK, too few for the settle timer to expire. -/
def State.bounced (s : State) (k : Nat) : State :=
  (arm { s with pin := otherLevel s.pin }).counted k

theorem otherLevel_ne (level : Level) : otherLevel level ≠ level := by cases level <;> simp [otherLevel]

theorem execAll_bounce {s : State} {k : Nat} (hk : k < s.cfg.settleCount) :
    execAll (.pin (otherLevel s.pin) :: List.replicate k .sclk) s = .next (s.bounced k) := by
  rw [execAll_cons, resultOf_pin_change (otherLevel_ne s.pin)]
  exact execAll_sclk_counts rfl hk

/-- A burst within the settle window is its bounces one after another. -/
theorem execAll_burst {ks : List Nat} {s : State} (hk : ∀ k ∈ ks, k < s.cfg.settleCount) :
    execAll (burst s.pin ks) s = .next (ks.foldl State.bounced s) := by
  induction ks generalizing s with
  | nil => rfl
  | cons k ks ih =>
    have first := execAll_bounce (hk k List.mem_cons_self)
    have rest : execAll (burst (otherLevel s.pin) ks) (s.bounced k) = .next (ks.foldl State.bounced (s.bounced k)) :=
      ih (s := s.bounced k) fun j hj => hk j (List.mem_cons_of_mem k hj)
    exact (execAll_append _ _ first).trans rest

/-- Bounces move neither a counter nor the debounced level, and no parameter. -/
theorem bounces_frame (ks : List Nat) (s : State) :
    (ks.foldl State.bounced s).press_count = s.press_count ∧
      (ks.foldl State.bounced s).release_count = s.release_count ∧
        (ks.foldl State.bounced s).deb_level = s.deb_level ∧ (ks.foldl State.bounced s).cfg = s.cfg := by
  induction ks generalizing s with
  | nil => exact ⟨rfl, rfl, rfl, rfl⟩
  | cons k ks ih => exact ih (s.bounced k)

/-- The end of a settle window moves at most one counter, by one. -/
theorem settled_counts_once (s : State) :
    (s.settled.press_count = s.press_count ∧ s.settled.release_count = s.release_count) ∨
    (s.settled.press_count = s.press_count + 1#8 ∧ s.settled.release_count = s.release_count) ∨
    (s.settled.press_count = s.press_count ∧ s.settled.release_count = s.release_count + 1#8) := by
  obtain ⟨-, kept⟩ | ⟨-, ⟨-, press⟩ | ⟨-, release⟩⟩ := settled_counts s
  · exact .inl kept
  · exact .inr (.inl press)
  · exact .inr (.inr release)

/-- Settles O26: the last bounce of the burst leaves the settle timer armed with at most a full window left, in which it
expires once. -/
theorem burstCountsAtMostOnce : Obligations.BurstCountsAtMostOnce := by
  intro ks s hne hk
  obtain ⟨init, k, rfl⟩ : ∃ init k, ks = init ++ [k] := ⟨_, _, (List.dropLast_concat_getLast hne).symm⟩
  obtain ⟨press, release, deb, cfg⟩ := bounces_frame (init ++ [k]) s
  have run := execAll_burst hk
  rw [List.foldl_append, List.foldl_cons, List.foldl_nil] at press release deb cfg run
  generalize init.foldl State.bounced s = r at press release deb cfg run
  have left : (r.bounced k).settle_cnt = s.cfg.settleCount - k := by
    rw [← cfg]
    rfl
  have short : k < s.cfg.settleCount := hk k List.mem_concat_self
  have window : execAll (List.replicate s.cfg.settleCount .sclk) (r.bounced k) = .next (r.bounced k).settled :=
    execAll_sclk_expires rfl (by omega) (by omega)
  rw [← press, ← release]
  exact ⟨r.bounced k, _, run, rfl, rfl, deb, rfl, window, rfl, settled_deb_level _, settled_counts_once _⟩

end Sys2Proof.Machine

/-!
PROOFS. The brightness state machine (42_brightness_fsm): the light outputs as an invariant of every step (R165, R166).
-/
namespace Sys2Proof.Machine

/-! ### The writers of the sequencer and of the outputs (20 R65) -/

/-- An operation is a POLL, an RST, or leaves the sequencer and the outputs of the block (20 R65). -/
theorem poll_or_rst_or_frame (i : Instr) (s : State) :
    (∃ temp chg usbboot, i = .poll temp chg usbboot) ∨ (∃ level, i = .rst level) ∨
      SameSequencer s (resultOf i s) ∧ SameOutputs s (resultOf i s) := by
  cases i with
  | poll temp chg usbboot => exact .inl ⟨temp, chg, usbboot, rfl⟩
  | rst level => exact .inr (.inl ⟨level, rfl⟩)
  | _ => exact .inr (.inr (resultOf_frame (by simp) (by simp) s))

/-! ### The invariant of the light outputs (R165, R166) -/

section LightWf
variable {s t : State}

/-- The invariant reads registers of the sequencer, outputs and parameters only. -/
theorem LightWf.of_frame (h : LightWf s) (seq : SameSequencer s t) (out : SameOutputs s t) (cfg : t.cfg = s.cfg) :
    LightWf t where
  static_pwm_en := by simpa only [seq.phase, seq.state, out.pwm_en, cfg] using h.static_pwm_en
  static_pwm_level := by simpa only [seq.phase, seq.state, out.pwm_level, cfg] using h.static_pwm_level
  static_drv_mode := by simpa only [seq.phase, seq.state, out.drv_mode, cfg] using h.static_drv_mode
  static_drv_en := by
    simpa only [State.isBright, seq.phase, seq.state, seq.modifier, out.drv_en, cfg] using h.static_drv_en
  warning_pwm := by simpa only [seq.phase, out.pwm_en, out.pwm_level] using h.warning_pwm
  warning_mode := by simpa only [seq.phase, out.drv_mode] using h.warning_mode
  warning_drv_en := by simpa only [seq.phase, seq.blink_left, out.drv_en] using h.warning_drv_en

/-- Outside the warning sequence the invariant does not ask which phase it is. -/
theorem LightWf.setPhase (h : LightWf s) (hs : s.phase ≠ .therm) {p : Phase} (hp : p ≠ .therm) :
    LightWf { s with phase := p } where
  static_pwm_en _ := h.static_pwm_en hs
  static_pwm_level _ := h.static_pwm_level hs
  static_drv_mode _ := h.static_drv_mode hs
  static_drv_en _ := h.static_drv_en hs
  warning_pwm ht := absurd ht hp
  warning_mode ht := absurd ht hp
  warning_drv_en ht := absurd ht hp

/-- `ApplyLight` of the state itself establishes the invariant, whatever the outputs were (42 R165). -/
theorem lightWf_applyLight (s : State) {p : Phase} (hp : p ≠ .therm) :
    LightWf { applyLight s.state s with phase := p } where
  static_pwm_en _ := rfl
  static_pwm_level _ := rfl
  static_drv_mode _ := rfl
  static_drv_en _ _ := rfl
  warning_pwm ht := absurd ht hp
  warning_mode ht := absurd ht hp
  warning_drv_en ht := absurd ht hp

/-- `Enter` applies the light of the state it enters (42 R160). -/
theorem lightWf_enter (p : PowerState) (s : State) {q : Phase} (hq : q ≠ .therm) :
    LightWf { enter p s with phase := q } :=
  lightWf_applyLight { s with pwr_hold := p.supply s.pwr_hold, next := p.successor, state := p } hq

/-- The entry of the override forces the light of MED with all six toggles left (43 R192). -/
theorem lightWf_thermTrigger (s : State) : LightWf (thermTrigger s) where
  static_pwm_en hp := absurd rfl hp
  static_pwm_level hp := absurd rfl hp
  static_drv_mode hp := absurd rfl hp
  static_drv_en hp := absurd rfl hp
  warning_pwm _ := ⟨rfl, rfl⟩
  warning_mode _ := rfl
  warning_drv_en _ := by simp

/-- A toggle of the warning sequence flips `drv_en` with the parity of the toggles left (43 R194). -/
theorem LightWf.thermToggle (h : LightWf s) (hp : s.phase = .therm) : LightWf (thermToggle s) where
  static_pwm_en hn := absurd hp hn
  static_pwm_level hn := absurd hp hn
  static_drv_mode hn := absurd hp hn
  static_drv_en hn := absurd hp hn
  warning_pwm := h.warning_pwm
  warning_mode := h.warning_mode
  warning_drv_en _ := by
    have parity : (s.blink_left - 1#3).toNat % 2 = 0 ↔ ¬s.blink_left.toNat % 2 = 0 := by bv_omega
    simp only [thermToggle_drv_en, thermToggle_blink_left, h.warning_drv_en hp, parity, decide_not]

/-- The return of the override applies the light of LOW (43 R195). -/
theorem lightWf_thermFinish (hr : s.ret_phase.waits) : LightWf (thermFinish s) := by
  have hp : s.ret_phase ≠ .therm := by
    obtain hw | hw | hw := (waits_iff _).mp hr <;> simp [hw]
  exact lightWf_applyLight { s with state := .low, next := .off } hp

/-- The idle duties write one light output, `drv_en`, and only under an active strobe, which the invariant leaves free
(42 R147). -/
theorem LightWf.duties (h : LightWf s) (hp : s.phase ≠ .therm) (chg : Bool) : LightWf (s.duties chg) where
  static_pwm_en := h.static_pwm_en
  static_pwm_level := h.static_pwm_level
  static_drv_mode := h.static_drv_mode
  static_drv_en _ hm := by
    have quiet : ¬s.strobes := by
      simp only [State.strobes, Bool.and_eq_true, decide_eq_true_eq]
      exact fun ⟨⟨_, strobe⟩, bright⟩ => hm ⟨strobe, bright⟩
    exact (if_neg quiet).trans (h.static_drv_en hp hm)
  warning_pwm ht := absurd ht hp
  warning_mode ht := absurd ht hp
  warning_drv_en ht := absurd ht hp

/-- Under SOLID the light is fully static, so a LONG press may set STROBE without a change of it (42 R153). -/
theorem LightWf.setStrobe (h : LightWf s) (hm : s.modifier = .solid) : LightWf { s with modifier := .strobe } :=
  { h with static_drv_en := fun hp _ => h.static_drv_en hp (by simp [hm]) }

/-- Every case of a POLL keeps the invariant (42 R141). -/
theorem PollCase.lightWf {temp : Byte} {chg usbboot : Bool} (h : PollCase temp chg usbboot s t)
    (hs : SequencerWf s) (hl : LightWf s) : LightWf t := by
  cases h with
  | bootHeld | shortOn | longOff => exact lightWf_enter _ _ (by simp)
  | bootReleased | shortOff => exact lightWf_enter .off _ (by simp)
  | overheat => exact lightWf_thermTrigger _
  | downQuiet hp | held hp | relQuiet hp => exact hl.duties (by simp [hp]) chg
  | down hp =>
    have outside : s.phase ≠ .therm := by simp [hp]
    exact { (hl.duties outside chg).setPhase outside (p := .waitUp) (by simp) with }
  | rel hp =>
    have outside : s.phase ≠ .therm := by simp [hp]
    exact { (hl.duties outside chg).setPhase outside (p := .waitDown) (by simp) with }
  | longStrobe hp _ _ _ _ hm =>
    have outside : s.phase ≠ .therm := by simp [hp]
    exact ((hl.duties outside chg).setStrobe hm).setPhase outside (by simp)
  | longSolid => exact lightWf_applyLight { s.duties chg with modifier := .solid } (by simp)
  | offReleased hp => exact { hl.setPhase (p := .offSettle) (by simp [hp]) (by simp) with }
  | settled hp => exact { hl.setPhase (p := .waitDown) (by simp [hp]) (by simp) with }
  | warningToggles hp => exact hl.thermToggle hp
  | warningEnds => exact lightWf_thermFinish hs.returns
  | offHeld | settling | warningWaits | reservedPhase => exact hl

/-- Every operation keeps the invariant: only POLL and RST write what it reads. -/
theorem LightWf.resultOf (h : LightWf s) (hs : SequencerWf s) (i : Instr) : LightWf (resultOf i s) := by
  obtain ⟨temp, chg, usbboot, rfl⟩ | ⟨level, rfl⟩ | ⟨sequencer, outputs⟩ := poll_or_rst_or_frame i s
  · exact { (pollPhase_cases temp chg usbboot s).lightWf hs h with }
  · exact { resetRegisters_lightWf level s with }
  · exact h.of_frame sequencer outputs (resultOf_cfg i s)

/-- With the light at its static values and the supply as the state says, the device is off in OFF (70 R246). -/
theorem LightWf.deviceOff (h : LightWf s) (hs : SequencerWf s) (ho : s.state = .off) : s.deviceOff := by
  have dark : ¬s.isBright := by simp [isBright_iff, ho]
  have outside : s.phase ≠ .therm := fun hp => dark (hs.warning hp)
  refine ⟨ho, ?_, ?_, ?_⟩
  · simpa [ho] using hs.supply
  · rw [h.static_pwm_en outside, ho]
    rfl
  · rw [h.static_drv_en outside fun ⟨_, bright⟩ => dark bright, ho]
    rfl

end LightWf

/-- Settles O55: a step takes a word off the port and runs one operation, which keeps both invariants. -/
theorem stepKeepsLightWf : Obligations.StepKeepsLightWf := by
  intro s t hs h hstep
  have kept : SequencerWf t := stepKeepsSequencerWf s t hs hstep
  obtain ⟨-, i, -, rfl⟩ := step_next_cases hstep
  have taken : LightWf s.takeWord := { h with }
  have light : LightWf (resultOf i s.takeWord) := taken.resultOf hs.takeWord i
  exact ⟨light, light.deviceOff kept⟩

end Sys2Proof.Machine

/-!
PROOFS. POLL in each phase (42_brightness_fsm): its end and its operands (R140, R142), boot (R143), the idle duties (R144 to
R147), the press (R150 to R154), OFF entry (R171, R172), the phase it leaves (R141), and the changes of the power state and
of the modifier (R155, R161).
-/
namespace Sys2Proof.Machine

/-! ### Every POLL (R140, R142) -/

/-- A POLL answers the state of its case, with the step outputs of POLL. -/
theorem PollCase.exec_eq {temp : Byte} {chg usbboot : Bool} {s t : State} (h : PollCase temp chg usbboot s t) :
    exec (.poll temp chg usbboot) s = .next (t.withOutputs true 0#8) := by
  rw [exec_eq_next_resultOf, resultOf, h.pollPhase_eq]

/-- Settles O29: the frame is that of the one writer, and the outputs are the last thing a POLL writes. -/
theorem pollAlwaysKicksWatchdog : Obligations.PollAlwaysKicksWatchdog := by
  intro temp chg usbboot s
  have completes := exec_eq_next_resultOf (.poll temp chg usbboot) s
  obtain ⟨tick, debounce⟩ := registersHaveOneWriter _ s _ completes
  obtain ⟨words, -⟩ := operationsIgnoreLaterWords _ [] s _ completes
  exact ⟨_, completes, rfl, rfl, tick, debounce, resultOf_cfg _ s, words⟩

/-- Settles O41: the reserved phase is a case of its own, which writes no register. -/
theorem reservedPhaseOnlyKicks : Obligations.ReservedPhaseOnlyKicks :=
  fun _ _ _ _ hp => (PollCase.reservedPhase hp).exec_eq

/-! ### The operands (R140, R143, R144) -/

/-- Outside the wait phases a POLL looks at neither the sample nor the charge input. -/
theorem pollPhase_of_not_waits {s : State} (h : ¬s.phase.waits) (temp temp' : Byte) (chg chg' usbboot : Bool) :
    pollPhase temp chg usbboot s = pollPhase temp' chg' usbboot s := by
  cases hp : s.phase with
  | waitDown | waitUp | waitRel => exact absurd (by rw [hp]; rfl) h
  | boot | offRel | offSettle | therm | reserved => simp only [pollPhase, hp]

/-- Outside P_BOOT a POLL does not look at the boot-time verdict. -/
theorem pollPhase_of_not_boot {s : State} (h : s.phase ≠ .boot) (temp : Byte) (chg usbboot usbboot' : Bool) :
    pollPhase temp chg usbboot s = pollPhase temp chg usbboot' s := by
  cases hp : s.phase with
  | boot => exact absurd hp h
  | waitDown | waitUp | waitRel | offRel | offSettle | therm | reserved => simp only [pollPhase, hp]

/-- Settles O43: P_BOOT is no wait phase, and outside both kinds the two lemmas follow one another. -/
theorem pollIgnoresOtherOperands : Obligations.PollIgnoresOtherOperands := by
  intro temp temp' chg chg' usbboot usbboot' s
  refine ⟨fun hb => ?_, fun hb => ?_, fun hb hw => ?_⟩
  · have hw : ¬s.phase.waits := by simp [hb, Phase.waits]
    exact congrArg (complete true 0#8) (pollPhase_of_not_waits hw ..)
  · exact congrArg (complete true 0#8) (pollPhase_of_not_boot hb ..)
  · exact congrArg (complete true 0#8) ((pollPhase_of_not_waits hw ..).trans (pollPhase_of_not_boot hb ..))

/-! ### Boot and OFF entry (R143, R171, R172) -/

/-- Settles O30: `Enter` of `next`, which is LOW, or of OFF. -/
theorem bootEntersLowOrOff : Obligations.BootEntersLowOrOff := by
  intro temp chg usbboot s hp hn
  split
  · rw [(PollCase.bootHeld hp ‹_›).exec_eq, hn]
    rfl
  · rename_i notPressed
    have released : s.pin = .released := by
      cases hl : s.pin with
      | pressed => exact absurd hl notPressed
      | released => rfl
    exact (PollCase.bootReleased hp released).exec_eq

/-- Settles O37: the two cases of P_OFF_REL, by the raw pin. -/
theorem offEntryWaitsForPinRelease : Obligations.OffEntryWaitsForPinRelease := by
  intro temp chg usbboot s hp
  split
  · exact (PollCase.offReleased hp ‹_›).exec_eq
  · exact (PollCase.offHeld hp ‹_›).exec_eq

/-- Settles O38: the two cases of P_OFF_SETTLE, by the delay. -/
theorem offSettleLatchesUsbFlag : Obligations.OffSettleLatchesUsbFlag := by
  intro temp chg usbboot s hp
  split
  · exact (PollCase.settled hp ‹_›).exec_eq
  · exact (PollCase.settling hp ‹_›).exec_eq

/-! ### The press (R150 to R154) -/

/-- Settles O32: the duties with the outputs of POLL are `idled` (`duties_withOutputs`). -/
theorem waitDownRecordsButtonDown : Obligations.WaitDownRecordsButtonDown := by
  intro temp chg usbboot s hp hc
  split
  · exact (PollCase.downQuiet hp hc ‹_›).exec_eq
  · exact (PollCase.down hp hc ‹_›).exec_eq

/-- Settles O33: `Enter` of the state in `next`, which for OFF is preceded by the modifier's reset. -/
theorem shortPressEntersNextState : Obligations.ShortPressEntersNextState := by
  intro temp chg usbboot s hp hc h
  cases hn : s.next with
  | off => exact (PollCase.shortOff hp hc h hn).exec_eq
  | low | med | high =>
    rw [(PollCase.shortOn hp hc h (by simp [hn])).exec_eq, hn]
    rfl

/-- Settles O34: from OFF `Enter` of `next`, which is LOW; else the toggle, which from STROBE applies the light of the
state. -/
theorem longPressTogglesModifierOrPowersOn : Obligations.LongPressTogglesModifierOrPowersOn := by
  intro temp chg usbboot s hp hc h hd hlow
  cases hs : s.state with
  | off =>
    rw [(PollCase.longOff hp hc h hd hs).exec_eq, hlow hs]
    rfl
  | low | med | high =>
    have on : s.state ≠ .off := by simp [hs]
    cases hm : s.modifier with
    | solid => exact (PollCase.longStrobe hp hc h hd on hm).exec_eq
    | strobe =>
      rw [(PollCase.longSolid hp hc h hd on hm).exec_eq, hs]
      rfl

/-- Settles O36: the two cases of P_WAIT_REL, by the release, on top of `idled`. -/
theorem waitRelConsumesRelease : Obligations.WaitRelConsumesRelease := by
  intro temp chg usbboot s hp hc
  split
  · exact (PollCase.relQuiet hp hc ‹_›).exec_eq
  · exact (PollCase.rel hp hc ‹_›).exec_eq

/-! ### The phase a POLL leaves (R141) -/

/-- The table of transitions (42 R141). -/
def phaseAfter (temp : Byte) (s : State) : Phase :=
  match s.phase with
  | .boot => if s.pin = .pressed then .waitDown else .offRel
  | .waitDown => if s.overheats temp then .therm else if s.press_count ≠ s.seen_press then .waitUp else .waitDown
  | .waitUp =>
    if s.overheats temp then .therm
    else if s.release_count ≠ s.seen_release then (if s.next = .off then .offRel else .waitDown)
    else if s.due s.down_tick s.cfg.longTicks then .waitRel
    else .waitUp
  | .waitRel =>
    if s.overheats temp then .therm else if s.release_count ≠ s.seen_release then .waitDown else .waitRel
  | .offRel => if s.pin = .released then .offSettle else .offRel
  | .offSettle => if s.due s.off_ref s.cfg.offSettleTicks then .waitDown else .offSettle
  | .therm => if s.due s.blink_ref (halfSecTicks s.cfg) ∧ s.blink_left = 0#3 then s.ret_phase else .therm
  | .reserved => .reserved

/-- Every case of a POLL leaves the phase of the table. -/
theorem PollCase.phase_eq {temp : Byte} {chg usbboot : Bool} {s t : State} (h : PollCase temp chg usbboot s t) :
    t.phase = phaseAfter temp s := by
  cases h with
  | bootHeld hp h | bootReleased hp h | offHeld hp h | offReleased hp h => simp [phaseAfter, hp, h]
  | overheat hp h => obtain hw | hw | hw := (waits_iff _).mp hp <;> simp [phaseAfter, hw, h]
  | downQuiet hp hc h | down hp hc h | relQuiet hp hc h | rel hp hc h =>
    simp [phaseAfter, State.duties, hp, hc, h]
  | shortOff hp hc h hn | shortOn hp hc h hn => simp [phaseAfter, hp, hc, h, hn]
  | longOff hp hc h hd | longStrobe hp hc h hd | longSolid hp hc h hd | held hp hc h hd =>
    simp [phaseAfter, State.duties, hp, hc, h, hd]
  | settling hp hd | settled hp hd | warningWaits hp hd => simp [phaseAfter, hp, hd]
  | warningToggles hp hd h | warningEnds hp hd h => simp [phaseAfter, hp, hd, h]
  | reservedPhase hp => simp [phaseAfter, hp]

theorem resultOf_poll_phase (temp : Byte) (chg usbboot : Bool) (s : State) :
    (resultOf (.poll temp chg usbboot) s).phase = phaseAfter temp s :=
  (pollPhase_cases temp chg usbboot s).phase_eq

/-- Settles O42: the other operations leave the sequencer, and a POLL leaves the phase of the table. -/
theorem phaseTransitionsAreThoseListed : Obligations.PhaseTransitionsAreThoseListed := by
  refine ⟨fun i s t h moved => ?_, fun temp chg usbboot s t h => ?_⟩ <;> obtain rfl := exec_next_iff.mp h
  · obtain poll | rst | ⟨sequencer, -⟩ := poll_or_rst_or_frame i s
    · exact .inl poll
    · exact .inr rst
    · exact absurd sequencer.phase moved
  · exact resultOf_poll_phase temp chg usbboot s

/-- A POLL of P_WAIT_UP without a trigger ends with the release seen, whether it was new or not (42 R151, R152). -/
theorem PollCase.seen_release_eq {temp : Byte} {chg usbboot : Bool} {s t : State} (h : PollCase temp chg usbboot s t)
    (hp : s.phase = .waitUp) (hc : ¬s.overheats temp) : t.seen_release = s.release_count := by
  cases h with
  | overheat _ ho => exact absurd ho hc
  | shortOff | shortOn => rfl
  | longOff _ _ h | longStrobe _ _ h | longSolid _ _ h | held _ _ h => exact h.symm
  | bootHeld hq | bootReleased hq | downQuiet hq | down hq | relQuiet hq | rel hq | offHeld hq | offReleased hq
  | settling hq | settled hq | warningWaits hq | warningToggles hq | warningEnds hq | reservedPhase hq =>
    cases hp.symm.trans hq

/-- Settles O35: the row of P_WAIT_UP in the table tests the release before the threshold. -/
theorem pressIsClassifiedReleaseFirst : Obligations.PressIsClassifiedReleaseFirst := by
  intro temp chg usbboot s hp hc
  refine ⟨fun h hd => (PollCase.held hp hc h hd).exec_eq, _, exec_eq_next_resultOf _ s,
    (pollPhase_cases temp chg usbboot s).seen_release_eq hp hc, ?_⟩
  simp only [resultOf_poll_phase, phaseAfter, hp, hc]
  by_cases h : s.release_count = s.seen_release
  · by_cases hd : s.due s.down_tick s.cfg.longTicks <;> simp [h, hd]
  · by_cases hn : s.next = .off <;> simp [h, hn]

/-! ### The idle duties (R144 to R147) -/

/-- The strobe interval is renewed by the duties of a wait phase and by nothing else (42 R144, R147). -/
theorem PollCase.strobe_ref_eq {temp : Byte} {chg usbboot : Bool} {s t : State} (h : PollCase temp chg usbboot s t) :
    t.strobe_ref = if s.phase.waits then (s.idled chg).strobe_ref else s.strobe_ref := by
  cases h with
  | overheat hp => exact (if_pos hp).symm
  | downQuiet hp | down hp | shortOff hp | shortOn hp | longOff hp | longStrobe hp | longSolid hp | held hp
  | relQuiet hp | rel hp => exact (if_pos (by rw [hp]; rfl)).symm
  | bootHeld hp | bootReleased hp | offHeld hp | offReleased hp | settling hp | settled hp | warningWaits hp
  | warningToggles hp | warningEnds hp | reservedPhase hp => exact (if_neg (by simp [hp, Phase.waits])).symm

/-- A POLL of a wait phase that neither triggers the override nor acts on a press leaves the light as the duties do
(42 R147). -/
theorem PollCase.light_idled {temp : Byte} {chg usbboot : Bool} {s t : State} (h : PollCase temp chg usbboot s t)
    (hw : s.phase.waits) (hc : ¬s.overheats temp) (hq : s.phase ≠ .waitUp ∨ t.phase = .waitUp) :
    t.drv_en = (s.idled chg).drv_en ∧ t.drv_mode = s.drv_mode ∧ t.pwm_en = s.pwm_en ∧ t.pwm_level = s.pwm_level := by
  cases h with
  | downQuiet | down | held | relQuiet | rel => exact ⟨rfl, rfl, rfl, rfl⟩
  | overheat _ ho => exact absurd ho hc
  | shortOff hp | shortOn hp | longOff hp | longStrobe hp | longSolid hp => simp [hp] at hq
  | bootHeld hp | bootReleased hp | offHeld hp | offReleased hp | settling hp | settled hp | warningWaits hp
  | warningToggles hp | warningEnds hp | reservedPhase hp => simp [hp, Phase.waits] at hw

/-- Settles O31: the duties write `usb_flag`, `strobe_ref` and `drv_en` in the wait phases; elsewhere the sample and the
charge input are not looked at. -/
theorem idleDutiesRunInWaitPhases : Obligations.IdleDutiesRunInWaitPhases := by
  intro temp chg usbboot s
  have hcase := pollPhase_cases temp chg usbboot s
  refine ⟨_, exec_eq_next_resultOf _ s, fun hw => ⟨?_, ?_⟩, fun hw => ⟨?_, fun temp' chg' => ?_⟩, hcase.light_idled⟩
  · rw [resultOf_usb_flag (by simp), latchesUsb_of_waits hw]
  · exact hcase.strobe_ref_eq.trans (if_pos hw)
  · exact hcase.strobe_ref_eq.trans (if_neg hw)
  · exact congrArg (complete true 0#8) (pollPhase_of_not_waits hw ..)

/-! ### The power state and the modifier (R155, R160, R161) -/

/-- The next states the invariant admits: the successor, or OFF in LOW after a warning sequence (42 R160, 43 R195). -/
theorem SequencerWf.next_cases {s : State} (h : SequencerWf s) :
    (s.state = .off ∧ s.next = .low) ∨ (s.state = .low ∧ s.next = .med) ∨ (s.state = .med ∧ s.next = .high) ∨
      (s.state = .high ∧ s.next = .off) ∨ (s.state = .low ∧ s.next = .off) := by
  cases hs : s.state with
  | off => simp [h.off_next hs]
  | low => simpa using h.low_next hs
  | med => simp [h.med_next hs]
  | high => simp [h.high_next hs]

/-- The power state after a POLL: kept, the next state, OFF still at boot, or LOW at the end of a warning sequence. -/
theorem PollCase.state_cases {temp : Byte} {chg usbboot : Bool} {s t : State} (h : PollCase temp chg usbboot s t) :
    t.state = s.state ∨ t.state = s.next ∨ (s.phase = .boot ∧ t.state = .off) ∨
      (s.phase = .therm ∧ t.state = .low ∧ t.next = .off) := by
  cases h with
  | bootHeld | shortOn | longOff => exact .inr (.inl rfl)
  | shortOff _ _ _ hn => exact .inr (.inl hn.symm)
  | bootReleased hp => exact .inr (.inr (.inl ⟨hp, rfl⟩))
  | warningEnds hp => exact .inr (.inr (.inr ⟨hp, rfl, rfl⟩))
  | _ => exact .inl rfl

/-- Settles O52: a POLL moves the state to the next one, which the invariant ties to it, or ends a warning sequence. -/
theorem powerStateAdvancesOneWay : Obligations.PowerStateAdvancesOneWay := by
  intro i s t hs h hr moved
  obtain rfl := exec_next_iff.mp h
  obtain ⟨temp, chg, usbboot, rfl⟩ | ⟨level, rfl⟩ | ⟨sequencer, -⟩ := poll_or_rst_or_frame i s
  · obtain kept | next | ⟨boot, off⟩ | finish := (pollPhase_cases temp chg usbboot s).state_cases
    · exact absurd kept moved
    · have entered : (resultOf (.poll temp chg usbboot) s).state = s.next := next
      rw [entered]
      obtain fromOff | fromLow | fromMed | fromHigh | ⟨low, off⟩ := hs.next_cases
      · exact .inl fromOff
      · exact .inr (.inl fromLow)
      · exact .inr (.inr (.inl fromMed))
      · exact .inr (.inr (.inr (.inl fromHigh)))
      · exact .inr (.inr (.inr (.inr (.inr ⟨low, off, off⟩))))
    · exact absurd (off.trans (hs.before_boot boot).symm) moved
    · exact .inr (.inr (.inr (.inr (.inl finish))))
  · exact absurd rfl (hr level)
  · exact absurd sequencer.state moved

/-- The cases of a POLL that write the modifier: a SHORT press into OFF and a LONG press outside OFF. -/
theorem PollCase.modifier_cases {temp : Byte} {chg usbboot : Bool} {s t : State} (h : PollCase temp chg usbboot s t) :
    t.modifier = s.modifier ∨
      (s.phase = .waitUp ∧ s.release_count ≠ s.seen_release ∧ s.next = .off ∧ t.modifier = .solid ∧
        t.state = .off ∧ t.phase = .offRel) ∨
      (s.phase = .waitUp ∧ s.release_count = s.seen_release ∧ s.due s.down_tick s.cfg.longTicks ∧ s.state ≠ .off ∧
        t.state = s.state ∧ t.phase = .waitRel) := by
  cases h with
  | shortOff hp _ h hn => exact .inr (.inl ⟨hp, h, hn, rfl, rfl, rfl⟩)
  | longStrobe hp _ h hd hs | longSolid hp _ h hd hs => exact .inr (.inr ⟨hp, h, hd, hs, rfl, rfl⟩)
  | _ => exact .inl rfl

/-- Settles O53: of two modifiers, one that is reset to SOLID and changes was STROBE. -/
theorem pressChangesStateOrModifier : Obligations.PressChangesStateOrModifier := by
  intro i s t h hr moved
  obtain rfl := exec_next_iff.mp h
  obtain ⟨temp, chg, usbboot, rfl⟩ | ⟨level, rfl⟩ | ⟨sequencer, -⟩ := poll_or_rst_or_frame i s
  · refine ⟨⟨temp, chg, usbboot, rfl⟩, ?_⟩
    obtain kept | ⟨hp, release, hn, solid, off, phase⟩ | ⟨hp, long⟩ :=
      (pollPhase_cases temp chg usbboot s).modifier_cases
    · exact absurd kept moved
    · have strobe : s.modifier = .strobe := by
        cases hm : s.modifier with
        | solid => exact absurd (solid.trans hm.symm) moved
        | strobe => rfl
      exact ⟨hp, .inl ⟨release, hn, strobe, solid, off, phase⟩⟩
    · exact ⟨hp, .inr long⟩
  · exact absurd rfl (hr level)
  · exact absurd sequencer.modifier moved

end Sys2Proof.Machine

/-!
PROOFS. The thermal supervisor (43_thermal_supervisor): the entry of the override (R191, R192), one POLL of the warning
sequence (R193 to R195), and the whole sequence (R197).
-/
namespace Sys2Proof.Machine

/-! ### The entry of the override (R191, R192) -/

/-- Without a trigger a POLL of a wait phase neither enters the warning sequence nor writes its registers (R191). -/
theorem PollCase.warning_not_started {temp : Byte} {chg usbboot : Bool} {s t : State}
    (h : PollCase temp chg usbboot s t) (hw : s.phase.waits) (hc : ¬s.overheats temp) :
    t.phase ≠ .therm ∧ t.ret_phase = s.ret_phase ∧ t.blink_left = s.blink_left ∧ t.blink_ref = s.blink_ref := by
  cases h with
  | overheat _ ho => exact absurd ho hc
  | downQuiet hp | held hp | relQuiet hp => exact ⟨by simp [State.duties, hp], rfl, rfl, rfl⟩
  | down | shortOff | shortOn | longOff | longStrobe | longSolid | rel => exact ⟨nofun, rfl, rfl, rfl⟩
  | bootHeld hp | bootReleased hp | offHeld hp | offReleased hp | settling hp | settled hp | warningWaits hp
  | warningToggles hp | warningEnds hp | reservedPhase hp => simp [hp, Phase.waits] at hw

/-- Settles O39: the trigger is the one case of a wait phase above the threshold; any other leaves the override alone. -/
theorem overheatStartsWarningSequence : Obligations.OverheatStartsWarningSequence := by
  intro temp chg usbboot s hw
  refine ⟨fun ho => (PollCase.overheat hw ho).exec_eq, fun hc t h => ?_⟩
  obtain rfl := exec_next_iff.mp h
  exact (pollPhase_cases temp chg usbboot s).warning_not_started hw hc

/-! ### One POLL of the warning sequence (R193 to R195) -/

/-- While toggles are left, counting one does not wrap. -/
theorem toNat_sub_one_of_ne_zero {x : BitVec 3} (h : x ≠ 0#3) : (x - 1#3).toNat = x.toNat - 1 := by
  bv_omega

/-- Settles O40: the three cases of P_THERM, by the interval and the toggles left. -/
theorem warningSequenceStep : Obligations.WarningSequenceStep := by
  intro temp chg usbboot s hp
  split
  case isTrue hd => exact (PollCase.warningWaits hp hd).exec_eq
  case isFalse hd =>
    have due : s.due s.blink_ref (halfSecTicks s.cfg) := Decidable.not_not.mp hd
    split
    case isTrue h0 => exact (PollCase.warningEnds hp due h0).exec_eq
    case isFalse h0 =>
      rw [(PollCase.warningToggles hp due h0).exec_eq, ← toNat_sub_one_of_ne_zero h0, BitVec.ofNat_toNat,
        BitVec.setWidth_eq]
      rfl

/-! ### The whole warning sequence (R197) -/

/-- The state after one TICK and one POLL. -/
def State.spun (s : State) (x : Spin) : State := resultOf (.poll x.temp x.chg x.usbboot) (resultOf .tick s)

theorem execAll_tickPolls (xs : List Spin) (s : State) : execAll (tickPolls xs) s = .next (xs.foldl State.spun s) := by
  induction xs generalizing s with
  | nil => rfl
  | cons x xs ih =>
    rw [tickPolls, execAll_cons, execAll_cons]
    exact ih (s.spun x)

/-- A TICK and a POLL end in the case of the POLL after the TICK. -/
theorem PollCase.spun_eq {x : Spin} {s t : State} (h : PollCase x.temp x.chg x.usbboot (resultOf .tick s) t) :
    s.spun x = t.withOutputs true 0#8 :=
  (exec_next_iff.mp h.exec_eq).symm

/-- Quotient and remainder of a number of ticks that ends no interval. -/
theorem div_mod_succ_within {n h : Nat} (hn : n % h + 1 < h) : (n + 1) / h = n / h ∧ (n + 1) % h = n % h + 1 := by
  rw [Nat.div_mod_unique (by omega)]
  have split := Nat.mod_add_div n h
  omega

/-- Quotient and remainder of a number of ticks that ends an interval. -/
theorem div_mod_succ_ends {n h : Nat} (hn : n % h + 1 = h) : (n + 1) / h = n / h + 1 ∧ (n + 1) % h = 0 := by
  rw [Nat.div_mod_unique (by omega), Nat.mul_succ]
  have split := Nat.mod_add_div n h
  omega

/-- The warning sequence begun in `s` stands at `t` after `n` ticks short of 7 intervals: the interval has run since the
last toggle, one toggle was made an interval, and what the sequence does not write is as in `s` (R194, R196). -/
structure WarningAt (s : State) (n : Nat) (t : State) : Prop extends SameDebounce s t where
  cfg : t.cfg = s.cfg
  state : t.state = s.state
  modifier : t.modifier = s.modifier
  pwr_hold : t.pwr_hold = s.pwr_hold
  ret_phase : t.ret_phase = s.ret_phase
  phase : t.phase = .therm
  since : (elapsed t.blink_ref t.tick).toNat = n % halfSecTicks s.cfg
  left : t.blink_left.toNat + n / halfSecTicks s.cfg = 6
  drv_en : t.drv_en = decide (n / halfSecTicks s.cfg % 2 = 0)

section WarningAt
variable {s t : State} {n : Nat}

theorem WarningAt.since_after_tick (h : WarningAt s n t) (h1 : 1 ≤ halfSecTicks s.cfg) (hh : halfSecTicks s.cfg ≤ 127) :
    (elapsed t.blink_ref (t.tick + 1#8)).toNat = n % halfSecTicks s.cfg + 1 := by
  have below : n % halfSecTicks s.cfg < halfSecTicks s.cfg := Nat.mod_lt n h1
  have before := h.since
  unfold elapsed at before ⊢
  bv_omega

/-- The interval is due at the POLL when the TICK before it completes `HALF_SEC_TICKS`. -/
theorem WarningAt.due_after_tick (h : WarningAt s n t) (h1 : 1 ≤ halfSecTicks s.cfg) (hh : halfSecTicks s.cfg ≤ 127) :
    (resultOf .tick t).due t.blink_ref (halfSecTicks t.cfg) ↔ halfSecTicks s.cfg ≤ n % halfSecTicks s.cfg + 1 := by
  rw [due_iff, ← elapsed_toNat, h.cfg, ← h.since_after_tick h1 hh]
  rfl

/-- Before the interval is over a POLL only waits (R193). -/
theorem WarningAt.waits (h : WarningAt s n t) (hh : halfSecTicks s.cfg ≤ 127)
    (hn : n % halfSecTicks s.cfg + 1 < halfSecTicks s.cfg) (x : Spin) : WarningAt s (n + 1) (t.spun x) := by
  have due := h.due_after_tick (by omega) hh
  obtain ⟨quotient, remainder⟩ := div_mod_succ_within hn
  have waited : t.spun x = (resultOf .tick t).withOutputs true 0#8 :=
    (PollCase.warningWaits (s := resultOf .tick t) h.phase ((not_congr due).mpr (by omega))).spun_eq
  rw [waited]
  exact { h with
    since := (h.since_after_tick (by omega) hh).trans remainder.symm
    left := quotient ▸ h.left
    drv_en := quotient ▸ h.drv_en }

/-- At the end of an interval with toggles left a POLL toggles and restarts the interval (R193, R194). -/
theorem WarningAt.toggles (h : WarningAt s n t) (hh : halfSecTicks s.cfg ≤ 127)
    (hn : n % halfSecTicks s.cfg + 1 = halfSecTicks s.cfg) (hl : n / halfSecTicks s.cfg < 6) (x : Spin) :
    WarningAt s (n + 1) (t.spun x) := by
  have due := h.due_after_tick (by omega) hh
  obtain ⟨quotient, remainder⟩ := div_mod_succ_ends hn
  have left := h.left
  have some_left : t.blink_left ≠ 0#3 := fun h0 => by
    rw [h0, BitVec.toNat_zero] at left
    omega
  have toggled : t.spun x = (thermToggle (resultOf .tick t)).withOutputs true 0#8 :=
    (PollCase.warningToggles (s := resultOf .tick t) h.phase (due.mpr (by omega)) some_left).spun_eq
  rw [toggled]
  exact { h with
    since := by
      rw [remainder]
      exact congrArg BitVec.toNat (BitVec.sub_self (t.tick + 1#8))
    left := by
      have counted : (t.blink_left - 1#3).toNat = t.blink_left.toNat - 1 := toNat_sub_one_of_ne_zero some_left
      change (t.blink_left - 1#3).toNat + _ = 6
      omega
    drv_en := by
      change (!t.drv_en) = _
      rw [h.drv_en, quotient, ← decide_not, decide_eq_decide]
      omega }

/-- At the end of an interval with no toggle left a POLL ends the sequence (R193, R195). -/
theorem WarningAt.ends (h : WarningAt s n t) (hh : halfSecTicks s.cfg ≤ 127)
    (hn : n % halfSecTicks s.cfg + 1 = halfSecTicks s.cfg) (hl : n / halfSecTicks s.cfg = 6) (x : Spin) :
    t.blink_left = 0#3 ∧ t.spun x = (thermFinish (resultOf .tick t)).withOutputs true 0#8 := by
  have due := h.due_after_tick (by omega) hh
  have none_left : t.blink_left = 0#3 := by
    have left := h.left
    bv_omega
  exact ⟨none_left, (PollCase.warningEnds (s := resultOf .tick t) h.phase (due.mpr (by omega)) none_left).spun_eq⟩

/-- The sequence as the trigger leaves it (R192). -/
theorem warningAt_zero (hp : s.phase = .therm) (hl : s.blink_left = 6#3) (hr : s.blink_ref = s.tick)
    (hd : s.drv_en = true) : WarningAt s 0 s where
  pin := rfl
  settle_armed := rfl
  settle_cnt := rfl
  deb_level := rfl
  press_count := rfl
  release_count := rfl
  cfg := rfl
  state := rfl
  modifier := rfl
  pwr_hold := rfl
  ret_phase := rfl
  phase := hp
  since := by rw [hr, elapsed, BitVec.sub_self, Nat.zero_mod, BitVec.toNat_zero]
  left := by rw [hl, Nat.zero_div]; rfl
  drv_en := by simp [hd]

/-- Short of 7 intervals a POLL waits, or toggles at the end of one of the first 6. -/
theorem WarningAt.succ (h : WarningAt s n t) (h1 : 1 ≤ halfSecTicks s.cfg) (hh : halfSecTicks s.cfg ≤ 127)
    (hn : n + 1 < 7 * halfSecTicks s.cfg) (x : Spin) : WarningAt s (n + 1) (t.spun x) := by
  obtain within | last : n % halfSecTicks s.cfg + 1 < halfSecTicks s.cfg ∨
      n % halfSecTicks s.cfg + 1 = halfSecTicks s.cfg := by
    have below := Nat.mod_lt n h1
    omega
  · exact h.waits hh within x
  · obtain ⟨quotient, -⟩ := div_mod_succ_ends last
    have short : (n + 1) / halfSecTicks s.cfg < 7 := (Nat.div_lt_iff_lt_mul h1).mpr hn
    exact h.toggles hh last (by omega) x

/-- Short of 7 intervals the sequence goes on, from any tick of it. -/
theorem WarningAt.foldl_spun (h : WarningAt s n t) (h1 : 1 ≤ halfSecTicks s.cfg) (hh : halfSecTicks s.cfg ≤ 127)
    (xs : List Spin) (hn : n + xs.length < 7 * halfSecTicks s.cfg) :
    WarningAt s (n + xs.length) (xs.foldl State.spun t) := by
  induction xs generalizing n t with
  | nil => exact h
  | cons x xs ih =>
    rw [List.length_cons, Nat.add_comm xs.length, ← Nat.add_assoc] at hn ⊢
    exact ih (h.succ h1 hh (by omega) x) hn

/-- The last POLL of 7 intervals finds no toggle left and ends the sequence. -/
theorem WarningAt.foldl_spun_ends (h0 : WarningAt s 0 s) (h1 : 1 ≤ halfSecTicks s.cfg) (hh : halfSecTicks s.cfg ≤ 127)
    (xs : List Spin) (hn : xs.length = 7 * halfSecTicks s.cfg) :
    ∃ t, WarningAt s (7 * halfSecTicks s.cfg - 1) t ∧ t.blink_left = 0#3 ∧
      xs.foldl State.spun s = (thermFinish (resultOf .tick t)).withOutputs true 0#8 := by
  have hne : xs ≠ [] := List.ne_nil_of_length_pos (by omega)
  obtain ⟨init, x, rfl⟩ : ∃ init x, xs = init ++ [x] := ⟨_, _, (List.dropLast_concat_getLast hne).symm⟩
  rw [List.length_append, List.length_singleton] at hn
  have before := h0.foldl_spun h1 hh init (by omega)
  rw [Nat.zero_add] at before
  obtain ⟨quotient, remainder⟩ : init.length / halfSecTicks s.cfg = 6 ∧
      init.length % halfSecTicks s.cfg = halfSecTicks s.cfg - 1 := by
    rw [Nat.div_mod_unique h1]
    omega
  obtain ⟨none_left, finished⟩ := before.ends hh (by omega) quotient x
  rw [List.foldl_append, List.foldl_cons, List.foldl_nil, ← hn, Nat.add_sub_cancel]
  exact ⟨_, before, none_left, finished⟩

end WarningAt

/-- Settles O59: short of 7 intervals the sequence stands as `WarningAt` says, and the POLL that completes them ends
it. -/
theorem warningSequenceTakesSevenIntervals : Obligations.WarningSequenceTakesSevenIntervals := by
  intro xs s h1 hh hp hl hr hd
  have start := warningAt_zero hp hl hr hd
  rw [execAll_tickPolls]
  refine ⟨fun hn => ?_, fun hn => ?_⟩
  · have now := start.foldl_spun h1 hh xs (by rwa [Nat.zero_add])
    rw [Nat.zero_add] at now
    exact ⟨_, rfl, now.phase, now.state, now.left, now.drv_en⟩
  · obtain ⟨t, before, none_left, finished⟩ := start.foldl_spun_ends h1 hh xs hn
    rw [finished]
    exact ⟨_, rfl, before.ret_phase, rfl, rfl, none_left, rfl, congrArg Params.lowDuty before.cfg, rfl, rfl,
      before.modifier, before.pwr_hold, { before.toSameDebounce with }⟩

end Sys2Proof.Machine

/-!
PROOFS. Exceptions, events and concurrency (60_exceptions): every operation completes (R210), TICK commutes with
the debounce, and the arbiter puts the events of an instant in its fixed order (R216).
-/
namespace Sys2Proof.Machine

/-! ### Completion (R210) -/

/-- Settles O12: the next state is `resultOf`. -/
theorem everyOperationCompletes : Obligations.EveryOperationCompletes :=
  fun i s => ⟨resultOf i s, exec_eq_next_resultOf i s⟩

/-! ### TICK beside PIN and SCLK (R216) -/

/-- The expiry neither reads nor writes what TICK writes. -/
theorem expire_resultOf_tick (s : State) : expire (resultOf .tick s) = resultOf .tick (expire s) := by
  unfold expire countEdge
  cases hp : s.pin <;> cases hd : s.deb_level <;> simp [resultOf, State.withOutputs, hp, hd]

theorem resultOf_pin_tick (level : Level) (s : State) :
    resultOf (.pin level) (resultOf .tick s) = resultOf .tick (resultOf (.pin level) s) := by
  have pin : (resultOf .tick s).pin = s.pin := rfl
  by_cases h : level = s.pin
  · rw [resultOf_pin_same h, resultOf_pin_same (h.trans pin.symm)]
    rfl
  · rw [resultOf_pin_change h, resultOf_pin_change (pin ▸ h)]
    rfl

theorem settleStep_resultOf_tick (s : State) : settleStep (resultOf .tick s) = resultOf .tick (settleStep s) := by
  unfold settleStep
  rw [apply_ite (resultOf .tick), ← expire_resultOf_tick]
  rfl

theorem resultOf_sclk_armed {s : State} (ha : s.settle_armed = true) :
    resultOf .sclk s = (settleStep s).withOutputs false 0#8 := by
  rw [resultOf, if_pos ha]

theorem resultOf_sclk_tick (s : State) :
    resultOf .sclk (resultOf .tick s) = resultOf .tick (resultOf .sclk s) := by
  have same : (resultOf .tick s).settle_armed = s.settle_armed := rfl
  cases armed : s.settle_armed with
  | false =>
    rw [resultOf_sclk_disarmed armed, resultOf_sclk_disarmed (same.trans armed)]
    rfl
  | true =>
    rw [resultOf_sclk_armed armed, resultOf_sclk_armed (same.trans armed), settleStep_resultOf_tick]
    rfl

/-- Settles O57: the registers of PIN and SCLK are apart from the Tick. -/
theorem tickCommutesWithDebounce : Obligations.TickCommutesWithDebounce := by
  refine ⟨fun level s => ?_, fun s => ?_⟩
  · simp only [execAll_cons, resultOf_pin_tick]
  · simp only [execAll_cons, resultOf_sclk_tick]

/-! ### The arbiter (R216) -/

theorem arbiter_of_reset {e : Events} {level : Level} (h : e.reset = some level) : arbiter e = [.rst level] := by
  rw [arbiter, h]

/-- Without a reset the instant is one piece an event, each empty when its event did not arrive. -/
theorem arbiter_of_no_reset {e : Events} (h : e.reset = none) :
    arbiter e = (if e.overflow then [.tick] else []) ++ (e.pinChange.map Instr.pin).toList ++
      (if e.settlePulse then [.sclk] else []) ++
      (e.spin.map fun x => Instr.poll x.temp x.chg x.usbboot).toList ++ (e.query.map Query.instr).toList := by
  rw [arbiter, h]

/-- An operation of an instant without reset is that of one of its events. -/
theorem mem_arbiter {e : Events} (h : e.reset = none) {i : Instr} :
    i ∈ arbiter e ↔ (e.overflow = true ∧ i = .tick) ∨ (∃ level, e.pinChange = some level ∧ i = .pin level) ∨
      (e.settlePulse = true ∧ i = .sclk) ∨ (∃ x, e.spin = some x ∧ i = .poll x.temp x.chg x.usbboot) ∨
        ∃ q, e.query = some q ∧ q.instr = i := by
  simp only [arbiter_of_no_reset h, List.mem_append, List.mem_ite_nil_right, List.mem_singleton, Option.mem_toList,
    Option.map_eq_some_iff, or_assoc, eq_comm (a := Instr.pin _), eq_comm (a := Instr.poll _ _ _)]

theorem Query.instr_inj {q r : Query} : q.instr = r.instr ↔ q = r := by
  cases q <;> cases r <;> simp [Query.instr]

theorem Query.arbiterRank_instr (q : Query) : arbiterRank q.instr = 5 := by
  cases q <;> rfl

/-- A query is no operation of another event. -/
theorem Query.instr_ne (q : Query) :
    q.instr ≠ .tick ∧ (∀ level, q.instr ≠ .pin level) ∧ q.instr ≠ .sclk ∧
      (∀ temp chg usbboot, q.instr ≠ .poll temp chg usbboot) ∧ (∀ level, q.instr ≠ .rst level) ∧ q.instr ≠ .nop := by
  cases q <;> simp [Query.instr]

theorem spin_eq_mk_iff {x : Spin} {temp : Byte} {chg usbboot : Bool} :
    temp = x.temp ∧ chg = x.chg ∧ usbboot = x.usbboot ↔ x = ⟨temp, chg, usbboot⟩ := by
  cases x
  simp [eq_comm]

/-- The piece of an event that carries a value has the rank of its operation, or is empty. -/
theorem ranks_toList_sublist {α : Type} (f : α → Instr) {k : Nat} (hf : ∀ a, arbiterRank (f a) = k) (o : Option α) :
    ((o.map f).toList.map arbiterRank).Sublist [k] := by
  cases o with
  | none => exact List.nil_sublist _
  | some a => simp [hf a]

theorem ranks_ite_sublist (b : Bool) (i : Instr) :
    ((if b then [i] else []).map arbiterRank).Sublist [arbiterRank i] := by
  cases b <;> simp

/-- The ranks of an instant without reset are those of the full instant with some left out. -/
theorem arbiter_ranks_sublist {e : Events} (h : e.reset = none) :
    ((arbiter e).map arbiterRank).Sublist [1, 2, 3, 4, 5] := by
  have tick := ranks_ite_sublist e.overflow .tick
  have pin := ranks_toList_sublist .pin (fun _ => rfl) e.pinChange
  have sclk := ranks_ite_sublist e.settlePulse .sclk
  have poll := ranks_toList_sublist (fun x : Spin => .poll x.temp x.chg x.usbboot) (fun _ => rfl) e.spin
  have query := ranks_toList_sublist Query.instr Query.arbiterRank_instr e.query
  rw [arbiter_of_no_reset h]
  simp only [List.map_append]
  exact (((tick.append pin).append sclk).append poll).append query

theorem arbiter_pairwise {e : Events} (h : e.reset = none) :
    (arbiter e).Pairwise fun i j => arbiterRank i < arbiterRank j := by
  have rising : [1, 2, 3, 4, 5].Pairwise (· < ·) := by decide
  exact List.pairwise_map.mp (rising.sublist (arbiter_ranks_sublist h))

/-- Settles O58: the order is that of the ranks, and an operation of each kind comes from its own event only. -/
theorem arbiterOrdersEvents : Obligations.ArbiterOrdersEvents := by
  refine ⟨fun e level => arbiter_of_reset, fun level x q => rfl, fun e h => ?_⟩
  refine ⟨arbiter_pairwise h, ?tick, fun level => ?pin, ?sclk, fun temp chg usbboot => ?poll, fun q => ?query,
    fun level => ?rst, ?nop⟩
  case poll => simp [mem_arbiter h, Query.instr_ne, spin_eq_mk_iff]
  case query => simp [mem_arbiter h, Query.instr_ne, Query.instr_inj]
  all_goals simp [mem_arbiter h, Query.instr_ne]

end Sys2Proof.Machine

/-!
PROOFS. Reset and hazards (70_reset_and_hazards): what RST leaves, and its word (R240).
-/
namespace Sys2Proof.Machine

/-- Settles O44: what RST leaves is `resetRegisters` under the two step outputs, and its word is that of O6. -/
theorem rstLoadsResetValues : Obligations.RstLoadsResetValues := by
  obtain ⟨-, -, -, -, rstWord⟩ := encodedWordAsNumber
  exact ⟨fun level s => exec_eq_next_resultOf (.rst level) s, rstWord⟩

end Sys2Proof.Machine
